-- ==== Sys2Proof/Word.lean ====
section
/-! DEFINITION. The value types of the block: link bytes, sample words, time values (R9, R10, R14). -/

namespace Sys2Proof

/-- A byte of either link stream or of the payload buffer (R70). -/
abbrev Byte := BitVec 8

/-- A sample word: 16 bits (R9). -/
abbrev Word := BitVec 16

/-- A time value: 32 bits, wrapping (R10, R45, R46, R55). -/
abbrev Time := BitVec 32

end Sys2Proof
end

