-- ==== Sys2Proof/Config.lean ====
section
/-! DEFINITION. What one implementation fixes (the parameters of R6 to R11) and the free values:
opaque constants with no body, about whose values nothing can be proved. -/

namespace Sys2Proof

/-- The build-time parameters (R6, R7, R8) and the OPEN ones (R11). A record of this type stands in
`State.params`, no step changes it, and a statement about every state is a statement about every
parameter value (log 1). -/
structure Params where
  /-- `C`, the number of channels (R6). -/
  channels : Nat
  /-- `B`, the capacity of one slot in samples (R7). -/
  bufferSize : Nat
  /-- `SP_NUM` of the send period `SP = SP_NUM / SP_DEN` (R8). -/
  spNum : Nat
  /-- `SP_DEN` (R8). -/
  spDen : Nat
  /-- `TIMER_CLK_HZ`, OPEN (R11, R144). -/
  timerClkHz : Nat
  /-- `TIME_UNIT` in seconds, numerator: OPEN, and read by no rule (R11). -/
  timeUnitNum : Nat
  /-- `TIME_UNIT` in seconds, denominator (R11). -/
  timeUnitDen : Nat
  /-- `ACK_EOL`, OPEN: the bytes that end an acknowledgment line (R11, R218). -/
  ackEol : List Byte
  deriving DecidableEq, Repr

/-- The spec's defaults for `C`, `B`, `SP` (R6, R7, R8). DESIGN CHOICE for the three OPEN parameters
(log 2): a timer clock of 1 MHz, a time unit of 1 ms, lines ended by the byte 0x0A. -/
def Params.default : Params :=
  { channels := 3, bufferSize := 1024, spNum := 1, spDen := 5
    timerClkHz := 1000000, timeUnitNum := 1, timeUnitDen := 1000, ackEol := [0x0A#8] }

/-- Which event the environment makes next where the schedule names none (R13, V7). -/
inductive Choice where
  | hostByte | timerTick | take | emit | timeInput
  deriving DecidableEq, Repr, Inhabited

/-- FREE VALUE (log 4): what byte `a` of the slot memory reads as before anything is written to it
(R33 "Contents at power-on are unspecified", V5 `any value`). -/
opaque Config.unwrittenByte : Nat → Byte

/-- FREE VALUE (log 7): the agent that moves at the n-th free draw (V7). -/
opaque Config.drawChoice : Nat → Choice

/-- FREE VALUE (log 7): the host byte of the n-th free draw (V4). -/
opaque Config.drawByte : Nat → Byte

/-- FREE VALUE (log 7): the sample of channel `c` at the n-th free draw (V1, R141). -/
opaque Config.drawSample : Nat → Nat → Word

/-- FREE VALUE (log 7): the time input at the n-th free draw (V2, R55). -/
opaque Config.drawTime : Nat → Time

end Sys2Proof
end

