-- ==== Sys2Proof/Syntax.lean ====
section
/-! DEFINITION. The operations of the block (one constructor for each row of spec/opcode_table.json),
the events of a run, and the event-trace lines of R102 and R103. -/

namespace Sys2Proof

/-- The receiver's mode (R52). -/
inductive RxMode where
  | cmd | payload
  deriving DecidableEq, Repr

/-- The operand of CONFIGURE: what `Parse` answers (R185, R212). -/
inductive ParseResult where
  /-- `Ok(e, f)`: `e` in 0..9 999 999 999 held in EPOCH's 64 bits, `f` in 0..999 held in FREQ's 10 bits (R10). -/
  | ok (e : BitVec 64) (f : BitVec 10)
  | malformed
  deriving DecidableEq, Repr

/-- The operations, one constructor a row of spec/opcode_table.json. -/
inductive Instr where
  /-- RESET_CMD: the host byte `'R'` (R91). -/
  | resetCmd
  /-- CONFIG_CMD: the marker byte `'T'` of the 15-byte command; its 14 following bytes are PAYLOAD_BYTE rows (R92, log 12). -/
  | configCmd
  /-- PAYLOAD_BYTE: a byte stored in RX_BUF (R211). -/
  | payloadByte (b : Byte)
  /-- IGNORED_BYTE: a byte that is no command where it stands (R100, R215, R216). -/
  | ignoredByte (b : Byte)
  /-- RX_BYTE: one byte received from the host (R211). -/
  | rxByte (b : Byte)
  /-- CONFIGURE (R185). -/
  | configure (r : ParseResult)
  /-- RESET (R188). -/
  | reset
  /-- TICK with `g = SAMPLE_IN[0..C-1]` and `t = TIME_NOW` (R145). -/
  | tick (g : List Word) (t : Time)
  /-- APPEND of one sample group (R121). -/
  | append (g : List Word)
  /-- TAKE (R123). -/
  | take
  /-- EMIT (R163). -/
  | emit
  /-- ACK_LINE: the acknowledgment line of EPOCH, FREQ and OSIZE (R99, R218). -/
  | ackLine
  /-- DATA_FRAME: what is left of the frame being sent, one EMIT a byte (R97, R162, log 13). -/
  | dataFrame
  deriving DecidableEq, Repr

/-- The inputs of one clock cycle of the timed hardware (R144, R248). -/
structure CycleInputs where
  /-- The host byte received in the cycle, if any (R56). -/
  rx : Option Byte
  /-- `SAMPLE_IN`, used if the timer fires (R54). -/
  samples : List Word
  /-- `TIME_NOW` in the cycle (R55). -/
  time : Time
  /-- Whether the drain engine chooses to take a ready frame (R123 "and the drain engine chooses to take it"). -/
  takes : Bool
  /-- `TX_READY` in the cycle (R57). -/
  txReady : Bool
  deriving DecidableEq, Repr

/-- What an agent does next, with the draws that come with it: the events of R102, and one clock cycle of
the timed hardware (R248, log 10). -/
inductive Event where
  /-- `rx <byte>` -/
  | rx (b : Byte)
  /-- `tick [s0, ..] @t` -/
  | tick (g : List Word) (t : Time)
  | take
  /-- `emit`, with `TX_READY = 1` -/
  | emit
  /-- `now t` -/
  | now (t : Time)
  /-- one clock cycle -/
  | cycle (c : CycleInputs)
  deriving DecidableEq, Repr

/-- A line of an event trace: the events of R102 and the shorthands of R103. -/
inductive TraceLine where
  | event (e : Event)
  /-- `rxs "<text>"`, the text as its bytes -/
  | rxs (text : List Byte)
  /-- `emit*N` -/
  | emits (n : Nat)
  /-- `cfg <epoch10> <freq3>` -/
  | cfg (epoch10 freq3 : List Byte)
  /-- `reset` -/
  | reset
  deriving DecidableEq, Repr

end Sys2Proof
end

