-- ==== Sys2Proof/WellFormed.lean ====
section
/-! DEFINITION. Which parameters, operands and events are well-formed (R6 to R11, R92, R121, R145). -/

namespace Sys2Proof

/-- The constraints on the parameters: `C >= 1`, `B >= 1`, `SP` a positive rational (R6, R7, R8),
`TIMER_CLK_HZ >= 999` (R144), a time unit that is a positive rational, `ACK_EOL` with no 0xFF byte (R165, U8). -/
def Params.wf (p : Params) : Bool :=
  decide (1 ≤ p.channels) && decide (1 ≤ p.bufferSize) && decide (1 ≤ p.spNum) && decide (1 ≤ p.spDen)
    && decide (999 ≤ p.timerClkHz) && decide (1 ≤ p.timeUnitNum) && decide (1 ≤ p.timeUnitDen)
    && p.ackEol.all (fun b => b != 0xFF#8)

/-- `e` has at most 10 decimal digits and `f` at most 3 (R94). -/
def ParseResult.wf : ParseResult → Bool
  | .ok e f => decide (e.toNat ≤ 9999999999) && decide (f.toNat ≤ 999)
  | .malformed => true

/-- A sample group has one word a channel (R54, R121). -/
def groupWf (p : Params) (g : List Word) : Bool := decide (g.length = p.channels)

/-- Well-formed operands. A payload byte is neither `'R'` nor `'T'` and an ignored byte is not `'R'`
(the notes of their rows; R100). -/
def Instr.wf (p : Params) : Instr → Bool
  | .resetCmd => true
  | .configCmd => true
  | .payloadByte b => b != 0x52#8 && b != 0x54#8
  | .ignoredByte b => b != 0x52#8
  | .rxByte _ => true
  | .configure r => r.wf
  | .reset => true
  | .tick g _ => groupWf p g
  | .append g => groupWf p g
  | .take => true
  | .emit => true
  | .ackLine => true
  | .dataFrame => true

/-- A well-formed event carries a sample group of `C` words. -/
def Event.wf (p : Params) : Event → Bool
  | .rx _ => true
  | .tick g _ => groupWf p g
  | .take => true
  | .emit => true
  | .now _ => true
  | .cycle c => groupWf p c.samples

end Sys2Proof
end

