-- ==== Sys2Proof/Decode.lean ====
section
/-! DEFINITION. The encodings of 30_encoding.md: which row a host byte is, the CONFIGURE command's payload
and its parse, the events and trace lines; and after each decoder its encoder. -/

namespace Sys2Proof

/-! ## Character codes (R17; PRESUMED, log 15) -/

/-- `'R'` -/
def codeR : Byte := 0x52#8
/-- `'T'` -/
def codeT : Byte := 0x54#8
/-- `'F'` -/
def codeF : Byte := 0x46#8
/-- `' '` -/
def codeSpace : Byte := 0x20#8

/-- The byte `0x30 + d` of decimal digit `d` (R218). -/
def digitByte (d : Nat) : Byte := BitVec.ofNat 8 (0x30 + d)

/-- `0x30 <= b <= 0x39` (R93). -/
def isDigit (b : Byte) : Bool := decide (0x30 ≤ b.toNat) && decide (b.toNat ≤ 0x39)

/-! ## Host bytes -/

/-- The row of the opcode table that byte `b` is, where the receiver is in mode `m` and FATAL is `fatal`
(R211 and the notes of the four host-byte rows). -/
def classify (m : RxMode) (fatal : Bool) (b : Byte) : Instr :=
  if b = codeR then .resetCmd
  else if fatal then .ignoredByte b
  else if b = codeT then .configCmd
  else match m with
    | .cmd => .ignoredByte b
    | .payload => .payloadByte b

/-- Why no operation is read from a byte string: there is no byte. Every byte is some row (R100), so this is
the only rejection. -/
inductive DecodeError where
  | noByte
  deriving DecidableEq, Repr

/-- Reads one operation from the host→device stream and answers the rest of the stream. Its length is one
byte (R96, R211: every received byte is one step). -/
def decode (m : RxMode) (fatal : Bool) : List Byte → Except DecodeError (Instr × List Byte)
  | [] => .error .noByte
  | b :: rest => .ok (classify m fatal b, rest)

/-- The host bytes of an operation. Internal events have no encoding, RX_BYTE among them: its byte is one of the four host-byte
rows (R101, R211). Outputs are not commands. -/
def encode : Instr → List Byte
  | .resetCmd => [codeR]
  | .configCmd => [codeT]
  | .payloadByte b => [b]
  | .ignoredByte b => [b]
  | .rxByte _ => []
  | .configure _ => []
  | .reset => []
  | .tick _ _ => []
  | .append _ => []
  | .take => []
  | .emit => []
  | .ackLine => []
  | .dataFrame => []

/-- Whether a host byte can be this row where the receiver is in mode `m` and FATAL is `fatal`: the
conditions in the notes of the four host-byte rows. The other rows are no byte rows. -/
def Instr.admitted (m : RxMode) (fatal : Bool) : Instr → Bool
  | .resetCmd => true
  | .configCmd => !fatal
  | .payloadByte b => b != codeR && b != codeT && m == .payload && !fatal
  | .ignoredByte b => b != codeR && (fatal || (b != codeT && m == .cmd))
  | .rxByte _ => false
  | .configure _ => false
  | .reset => false
  | .tick _ _ => false
  | .append _ => false
  | .take => false
  | .emit => false
  | .ackLine => false
  | .dataFrame => false

/-! ## The CONFIGURE command (R92 to R95, R212) -/

/-- `Dec(d) = sum over k of (d[k] - 0x30) * 10^(n-1-k)` (R94). -/
def decValue : List Byte → Nat
  | [] => 0
  | d :: ds => (d.toNat - 0x30) * 10 ^ ds.length + decValue ds

/-- A payload is well-formed iff bytes 0..9 are digits, byte 10 is `'F'` and bytes 11..13 are digits (R93). -/
def payloadWf (p : Vector Byte 14) : Bool :=
  (p.toList.take 10).all isDigit && p.toList[10]? == some codeF && (p.toList.drop 11).all isDigit

/-- `Parse(p[0..13])` (R212). -/
def parse (p : Vector Byte 14) : ParseResult :=
  if payloadWf p then
    .ok (BitVec.ofNat 64 (decValue (p.toList.take 10))) (BitVec.ofNat 10 (decValue (p.toList.drop 11)))
  else .malformed

/-- The `k` lowest decimal digits of `n`, most significant first, zero-padded (R95). -/
def fixedDigits : Nat → Nat → List Byte
  | 0, _ => []
  | k + 1, n => digitByte (n / 10 ^ k % 10) :: fixedDigits k n

theorem length_fixedDigits (k n : Nat) : (fixedDigits k n).length = k := by
  induction k with
  | zero => rfl
  | succ k ih => simp [fixedDigits, ih]

/-- The 14 payload bytes of a configuration: 10 epoch digits, `'F'`, 3 frequency digits (R92). -/
def encodePayload (e f : Nat) : Vector Byte 14 :=
  ⟨(fixedDigits 10 e ++ codeF :: fixedDigits 3 f).toArray, by simp [length_fixedDigits]⟩

/-- The 15 bytes of the CONFIGURE command (R92). -/
def encodeConfigure (e f : Nat) : List Byte := codeT :: (encodePayload e f).toList

/-! ## Events and trace lines (R102, R103) -/

/-- The operation an event performs, where the receiver is in mode `m` and FATAL is `fatal`. `now` only sets an
input and a clock cycle performs several operations, so neither is one. -/
def decodeEvent (m : RxMode) (fatal : Bool) : Event → Option Instr
  | .rx b => some (classify m fatal b)
  | .tick g t => some (.tick g t)
  | .take => some .take
  | .emit => some .emit
  | .now _ => none
  | .cycle _ => none

/-- The event that performs an operation; that of RX_BYTE is the arrival of its byte, which decodes to the byte's row. CONFIGURE, RESET, APPEND, ACK_LINE and DATA_FRAME happen only inside
other events (R185, R188, R121, R218, R163), so no event is theirs alone. -/
def encodeEvent : Instr → Option Event
  | .resetCmd => some (.rx codeR)
  | .configCmd => some (.rx codeT)
  | .payloadByte b => some (.rx b)
  | .ignoredByte b => some (.rx b)
  | .rxByte b => some (.rx b)
  | .configure _ => none
  | .reset => none
  | .tick g t => some (.tick g t)
  | .append _ => none
  | .take => some .take
  | .emit => some .emit
  | .ackLine => none
  | .dataFrame => none

/-- The events a trace line stands for (R103). -/
def TraceLine.expand : TraceLine → List Event
  | .event e => [e]
  | .rxs text => text.map Event.rx
  | .emits n => List.replicate n Event.emit
  | .cfg epoch10 freq3 => (codeT :: (epoch10 ++ codeF :: freq3)).map Event.rx
  | .reset => [.rx codeR]

/-- The events of a trace. -/
def expandTrace (lines : List TraceLine) : List Event := lines.flatMap TraceLine.expand

/-! ## The opcode table's words -/

/-- The `n` lowest bytes of `w`, the least significant first: the order in which the bytes arrive. -/
def bytesOf : Nat → Nat → List Byte
  | 0, _ => []
  | n + 1, w => BitVec.ofNat 8 w :: bytesOf n (w / 256)

/-- The bytes of a table word of `nbits` bits: at least its first byte. -/
def tableBytes (nbits w : Nat) : List Byte := bytesOf (max 1 (nbits / 8)) w

/-- The operation the decoder reads from a table word, with the receiver as it is after reset (`Cmd`, FATAL = 0;
R270, log 12). -/
def decodeTableWord (nbits w : Nat) : Option Instr :=
  match decode .cmd false (tableBytes nbits w) with
  | .ok (i, _) => some i
  | .error _ => none

end Sys2Proof
end

