-- ==== Sys2Proof/Machine/State.lean ====
section
/-! DEFINITION. The state of the block: every element of R32 and the inputs of R55 and R57, the
parameters, and the model's own schedule; the reasons a step can stop; the state after power-on. -/

namespace Sys2Proof.Machine

/-- The System Phase (R38). -/
inductive Phase where
  | idle | acquiring
  deriving DecidableEq, Repr

/-- A slot index, 0 or 1 (R33, R34). -/
inductive Slot where
  | zero | one
  deriving DecidableEq, Repr

/-- The slot memory: the bytes written so far, by address, addresses strictly rising (log 3, log 4). -/
abbrev Memory := List Host.Cell

/-- The state of the block. -/
structure State where
  /-- the build-time parameters: no step changes them (R6 to R11, log 1) -/
  params : Params
  /-- `SLOT` (R33) -/
  slots : Memory
  /-- `ACTIVE` (R34) -/
  active : Slot
  /-- `CURSOR` (R35) -/
  cursor : Nat
  /-- `READY` (R36) -/
  ready : Bool
  /-- `OSIZE` (R37) -/
  osize : Nat
  /-- `PHASE` (R38) -/
  phase : Phase
  /-- `EPOCH` (R39) -/
  epoch : BitVec 64
  /-- `FREQ` (R40) -/
  freq : BitVec 10
  /-- `FATAL` (R41) -/
  fatal : Bool
  /-- `PERR` (R42) -/
  perr : Bool
  /-- `OVR` (R43) -/
  ovr : Bool
  /-- `TMR_CNT` (R44) -/
  tmrCnt : Nat
  /-- `TS` (R45) -/
  ts : Time
  /-- `TPREV` (R46) -/
  tprev : Time
  /-- `ENC_BUSY` (R47) -/
  encBusy : Bool
  /-- `ENC_SLOT` (R48) -/
  encSlot : Slot
  /-- `ENC_LEN` (R49) -/
  encLen : Nat
  /-- `ENC_POS` (R50) -/
  encPos : Nat
  /-- `ENC_HI` (R51) -/
  encHi : Byte
  /-- `RX_MODE` (R52) -/
  rxMode : RxMode
  /-- `RX_CNT` (R52) -/
  rxCnt : Fin 14
  /-- `RX_BUF` (R53) -/
  rxBuf : Vector Byte 14
  /-- `LINK_OUT`, the whole history (R58, log 16) -/
  linkOut : List Byte
  /-- the input `TIME_NOW` as the next CONFIGURE sees it (R55, R102; log 14) -/
  timeNow : Time
  /-- the input `TX_READY` (R57; log 14) -/
  txReady : Bool
  /-- the model's own: the events still to come, the first one next (log 6) -/
  sched : List Event
  /-- the model's own: how many free draws have been made (log 7) -/
  draws : Nat
  deriving DecidableEq, Repr

/-- The states no run reaches, where the spec lets a model fault (X1 and X2 of 93_implementation_defined.md;
log 11). All are safe: the machine stops where the hardware has no behaviour. -/
inductive Fault where
  /-- X1: a slot access at a word index of `B` or more (R72 "a model may fault on one as unreachable"). Raised by
  APPEND, TICK, EMIT and DATA_FRAME, and by a clock cycle. Safe. -/
  | slotIndexOutOfRange
  /-- X1: `CURSOR + C > OSIZE` at an APPEND (R121 "is unreachable ...; a model may fault on it"). Raised by APPEND and
  TICK, and by a clock cycle. Safe. -/
  | cursorPastFrame
  /-- X2: PERIOD = 0 while `Acquiring` (R144). Raised by a clock cycle. Safe. -/
  | timerPeriodZero
  deriving DecidableEq, Repr

/-- Operations that cannot happen where they are asked for (R16, R102; log 8), and operands that are none (log 17). -/
inductive Refusal where
  /-- no meaning yet for the operation of this mnemonic; raised by the dispatcher alone. Safe. -/
  | notModelled (mnemonic : String)
  /-- TICK while `Idle` (R145 "Enabled when"). Raised by TICK. Safe. -/
  | tickNotEnabled
  /-- APPEND while `Idle` (R121 "Enabled when"). Raised by APPEND. Safe. -/
  | appendNotEnabled
  /-- TAKE with READY = 0 or ENC_BUSY = 1 (R123 "Enabled when"). Raised by TAKE. Safe. -/
  | takeNotEnabled
  /-- EMIT with ENC_BUSY = 0 or TX_READY = 0 (R163 "Enabled when"). Raised by EMIT. Safe. -/
  | emitNotEnabled
  /-- DATA_FRAME with ENC_BUSY = 0 or TX_READY = 0: none of its EMITs is enabled (R163). Raised by DATA_FRAME. Safe. -/
  | dataFrameNotEnabled
  /-- a sample group that has not one word a channel (R54, R121). Raised by TICK and APPEND, and by a clock cycle. Safe. -/
  | sampleGroupSize
  deriving DecidableEq, Repr

/-- The state after power-on of a block with parameters `p` (R270, the power-on column of R32). RX_BUF is
unspecified there: all zero is a DESIGN CHOICE (log 5). TIME_NOW, TX_READY: log 14. -/
def State.powerOn (p : Params) : State :=
  { params := p, slots := [], active := .zero, cursor := 0, ready := false, osize := 0, phase := .idle
    epoch := 0, freq := 0, fatal := false, perr := false, ovr := false, tmrCnt := 0, ts := 0, tprev := 0
    encBusy := false, encSlot := .zero, encLen := 0, encPos := 0, encHi := 0
    rxMode := .cmd, rxCnt := 0, rxBuf := Vector.replicate 14 0, linkOut := []
    timeNow := 0, txReady := false, sched := [], draws := 0 }

/-- The state after power-on at the default parameters. -/
def State.reset : State := State.powerOn Params.default

end Sys2Proof.Machine
end

