-- ==== Sys2Proof/Machine/Ops.lean ====
section
/-! DEFINITION. The shared operations: sequencing, the slot memory and its two primitives (R72), LinkSend (R15),
the record of an error and the recovery from it (R240, R250), PipelineClear (R187), and the other state
writes that the operation rules share. -/

namespace Sys2Proof.Machine

/-- Goes on with `f` where a step answered a next state; a fault or a refusal ends the whole operation. -/
def andThen (o : Host.Outcome State Fault Refusal) (f : State → Host.Outcome State Fault Refusal) :
    Host.Outcome State Fault Refusal :=
  match o with
  | .next s => f s
  | .fault r => .fault r
  | .refused r => .refused r

/-- The next state of an outcome, if it is one. -/
def nextOf (o : Host.Outcome State Fault Refusal) : Option State :=
  match o with
  | .next s => some s
  | .fault _ => none
  | .refused _ => none

/-! ## The slot memory (R70 to R75) -/

/-- The canonical form: addresses strictly rising, so no address twice. An unlisted byte reads as a free
value, which no listed byte can be known to equal, so the form asks nothing more (log 4). -/
abbrev Memory.wf (m : Memory) : Prop := m.Pairwise (fun c d => c.1 < d.1)

/-- The byte listed at `a`, if one was written. -/
def Memory.listed : Memory → Nat → Option Byte
  | [], _ => none
  | (k, v) :: rest, a => if k = a then some v else Memory.listed rest a

/-- The byte at `a`; a free value where nothing was written (R33, V5). -/
def Memory.readByte (m : Memory) (a : Nat) : Byte := (Memory.listed m a).getD (Config.unwrittenByte a)

/-- Writes one byte, keeping the list canonical. -/
def Memory.writeByte : Memory → Nat → Byte → Memory
  | [], a, v => [(a, v)]
  | (k, w) :: rest, a, v =>
    if a < k then (a, v) :: (k, w) :: rest
    else if a = k then (a, v) :: rest
    else (k, w) :: Memory.writeByte rest a v

/-- 0 or 1. -/
def Slot.index : Slot → Nat
  | .zero => 0
  | .one => 1

/-- `1 - s`. -/
def Slot.other : Slot → Slot
  | .zero => .one
  | .one => .zero

/-- The address of the low byte of word `i` of slot `k`: the linear word index `s * B + i` that R71 allows, two bytes a
word, the low byte first (log 3: nothing observable depends on it). -/
def slotAddr (p : Params) (k : Slot) (i : Nat) : Nat := 2 * (k.index * p.bufferSize + i)

/-- Bits 7..0 of a word (R14). -/
def lowByte (w : Word) : Byte := w.extractLsb' 0 8

/-- Bits 15..8 of a word (R14). -/
def highByte (w : Word) : Byte := w.extractLsb' 8 8

/-- `SLOT[k][i]`. -/
def slotWord (s : State) (k : Slot) (i : Nat) : Word :=
  Memory.readByte s.slots (slotAddr s.params k i + 1) ++ Memory.readByte s.slots (slotAddr s.params k i)

/-- The memory after `SLOT[k][i] <- v`. -/
def storeWord (p : Params) (m : Memory) (k : Slot) (i : Nat) (v : Word) : Memory :=
  Memory.writeByte (Memory.writeByte m (slotAddr p k i) (lowByte v)) (slotAddr p k i + 1) (highByte v)

/-- `SlotRead(k, i)` (R72): nothing where the index is not below `B`. -/
def slotRead (s : State) (k : Slot) (i : Nat) : Option Word :=
  if i < s.params.bufferSize then some (slotWord s k i) else none

/-- `SlotWrite(k, i, v)` (R72): faults where the index is not below `B` (X1). -/
def slotWrite (s : State) (k : Slot) (i : Nat) (v : Word) : Host.Outcome State Fault Refusal :=
  if i < s.params.bufferSize then .next { s with slots := storeWord s.params s.slots k i v }
  else .fault .slotIndexOutOfRange

/-! ## The link (R15, R58) -/

/-- `LinkSend(bytes)`: appends to LINK_OUT. -/
def linkSend (bytes : List Byte) (s : State) : State := { s with linkOut := s.linkOut ++ bytes }

/-! ## Errors (R240, R250): the record of one, and the recovery -/

/-- The error conditions of R240. -/
inductive ErrorCode where
  /-- malformed payload (R241) -/
  | e1
  /-- frequency 0 (R245) -/
  | e2
  /-- output size over the capacity (R242) -/
  | e3
  /-- sample above 15 bits: not detected (R243) -/
  | e4
  /-- frame dropped (R244) -/
  | e5
  /-- frame being sent overwritten (R244) -/
  | e6
  deriving DecidableEq, Repr

/-- The errors recorded as `PERR = 1` (R240). -/
def ErrorCode.setsPerr : ErrorCode → Bool
  | .e1 => true
  | .e2 => true
  | .e3 => false
  | .e4 => false
  | .e5 => false
  | .e6 => false

/-- The error recorded as `FATAL = 1` (R240). -/
def ErrorCode.setsFatal : ErrorCode → Bool
  | .e1 => false
  | .e2 => false
  | .e3 => true
  | .e4 => false
  | .e5 => false
  | .e6 => false

/-- The errors recorded as `OVR = 1` (R240). -/
def ErrorCode.setsOvr : ErrorCode → Bool
  | .e1 => false
  | .e2 => false
  | .e3 => false
  | .e4 => false
  | .e5 => true
  | .e6 => true

/-- Error entry: the flag of R240 is set and nothing is saved (R250). The block takes no other exception. -/
def recordError (e : ErrorCode) (s : State) : State :=
  { s with perr := s.perr || e.setsPerr, fatal := s.fatal || e.setsFatal, ovr := s.ovr || e.setsOvr }

/-- Recovery: RESET clears the three flags (R188, R250). -/
def clearFlags (s : State) : State := { s with fatal := false, perr := false, ovr := false }

/-! ## State writes that the operation rules share -/

/-- PipelineClear (R187). -/
def pipelineClear (s : State) : State :=
  { s with phase := .idle, tmrCnt := 0, cursor := 0, ready := false, active := .zero, osize := 0
           encBusy := false, encPos := 0 }

/-- The receiver goes back to `Cmd` (R188, R211). -/
def receiverToCmd (s : State) : State := { s with rxMode := .cmd, rxCnt := 0 }

/-- The receiver starts a payload (R211, R214). -/
def startPayload (s : State) : State := { s with rxMode := .payload, rxCnt := 0 }

/-- `RX_BUF[RX_CNT] <- b` (R211). -/
def storePayload (b : Byte) (s : State) : State := { s with rxBuf := s.rxBuf.set s.rxCnt b }

/-- The values a successful CONFIGURE keeps (R185). -/
def acceptConfig (e : BitVec 64) (f : BitVec 10) (os : Nat) (s : State) : State :=
  { s with epoch := e, freq := f, osize := os }

/-- The start of the sampler at the end of a successful CONFIGURE (R185). -/
def startSampler (s : State) : State :=
  { s with ts := 0, tprev := s.timeNow, tmrCnt := 0, phase := .acquiring }

/-- TICK's frame-boundary update (R145, R146). -/
def noteBoundary (t : Time) (s : State) : State :=
  if s.cursor = 0 then { s with ts := s.ts + (t - s.tprev), tprev := t } else s

/-- The swap (R80, R121): the frame is ready, the roles change, the cursor goes back to 0. -/
def swapSlots (s : State) : State := { s with ready := true, active := s.active.other, cursor := 0 }

/-- TAKE's latches (R123). -/
def latchFrame (s : State) : State :=
  { s with encSlot := s.active.other, encLen := s.osize, encPos := 0, encBusy := true, ready := false }

/-- The end of an EMIT: the next byte, or the end of the frame (R163). -/
def advanceEncoder (s : State) : State :=
  if s.encPos + 1 = 4 + 2 * s.encLen then { s with encBusy := false, encPos := 0 }
  else { s with encPos := s.encPos + 1 }

end Sys2Proof.Machine
end

