-- ==== Sys2Proof/Machine/Operands.lean ====
section
/-! DEFINITION. The values the operations compute: output size (R182), timer period (R144), frame bytes and their
decoding (R162, R166), the acknowledgment line (R218). -/

namespace Sys2Proof.Machine

/-- `OutputSize(f) = max(C, floor(f * SP_NUM / SP_DEN) * C)`, exact in integers (R182, R184). -/
def outputSize (p : Params) (f : Nat) : Nat := max p.channels (f * p.spNum / p.spDen * p.channels)

/-- `TPF = OSIZE / C` (R12). -/
def ticksPerFrame (p : Params) (os : Nat) : Nat := os / p.channels

/-- `FRAME_BYTES = 4 + 2 * OSIZE` (R12). -/
def frameLength (n : Nat) : Nat := 4 + 2 * n

/-- `PERIOD = floor(TIMER_CLK_HZ / FREQ)` cycles (R144). -/
def timerPeriod (p : Params) (f : Nat) : Nat := p.timerClkHz / f

/-! ## Data frame -/

/-- The two bytes of a sample, low byte first (R75). -/
def wordBytes (w : Word) : List Byte := [lowByte w, highByte w]

/-- The four `0xFF` bytes before a frame (R97). -/
def sentinel : List Byte := [0xFF#8, 0xFF#8, 0xFF#8, 0xFF#8]

/-- `FrameBytes(w)` (R162). -/
def frameBytes (w : List Word) : List Byte := sentinel ++ w.flatMap wordBytes

/-- The words of a byte string, two bytes each, low byte first; a last byte without a partner is left out. -/
def wordsOf : List Byte → List Word
  | lo :: hi :: rest => (hi ++ lo) :: wordsOf rest
  | _ => []

/-- The host's reading of one frame: `w[i] = F[4+2i] + 256 * F[5+2i]` after the sentinel (R166). -/
def decodeFrame (bytes : List Byte) : Option (List Word) :=
  if bytes.take 4 = sentinel then some (wordsOf (bytes.drop 4)) else none

/-! ## Acknowledgment line (R99, R218) -/

/-- The decimal digits of `n`, at most `fuel` of them, without leading zeros. -/
def decDigits : Nat → Nat → List Byte
  | 0, _ => []
  | fuel + 1, n => if n < 10 then [digitByte n] else decDigits fuel (n / 10) ++ [digitByte (n % 10)]

/-- `DecText(n)` (R218). -/
def decText (n : Nat) : List Byte := decDigits (n + 1) n

/-- `Dec3Text(n)` (R218). -/
def dec3Text (n : Nat) : List Byte := fixedDigits 3 n

/-- `AckLine(e, f, os)` (R218). -/
def ackLineBytes (p : Params) (e f os : Nat) : List Byte :=
  decText e ++ [codeSpace] ++ dec3Text f ++ [codeSpace] ++ decText os ++ p.ackEol

end Sys2Proof.Machine
end

