-- ==== Sys2Proof/Machine/Flags.lean ====
section
/-! DEFINITION. The conditions the rules test: which operations are enabled, the two overrun cases, and the status
outputs. -/

namespace Sys2Proof.Machine

/-- TICK is enabled while `Acquiring` (R145, R149). -/
def tickEnabled (s : State) : Bool := s.phase == .acquiring

/-- TAKE is enabled when READY = 1 and ENC_BUSY = 0 (R123, R161). -/
def takeEnabled (s : State) : Bool := s.ready && !s.encBusy

/-- EMIT is enabled when ENC_BUSY = 1 and TX_READY = 1 (R163, R221). -/
def emitEnabled (s : State) : Bool := s.encBusy && s.txReady

/-- Overrun case 2 (R121): a write of word `i` of the active slot hits a word of the frame being sent that is not
yet read. -/
def overwritesUnsent (s : State) (i : Nat) : Bool :=
  s.encBusy && s.encSlot == s.active && decide (i < s.encLen) && decide (s.encPos ≤ 4 + 2 * i)

/-- R121, inside the loop: OVR is set before the write if it is an overrun of case 2 (E6). -/
def noteOverwrite (i : Nat) (s : State) : State := if overwritesUnsent s i then recordError .e6 s else s

/-- R121, at the swap: OVR is set if the previous ready frame was never taken (E5, overrun case 1). -/
def noteDrop (s : State) : State := if s.ready then recordError .e5 s else s

/-- `WAIT = 1` iff `PHASE = Idle` (R59). -/
def waitOut (s : State) : Bool := s.phase == .idle

/-- `FATAL_OUT` (R60). -/
def fatalOut (s : State) : Bool := s.fatal

/-- `PERR_OUT` (R60). -/
def perrOut (s : State) : Bool := s.perr

/-- `OVR_OUT` (R60). -/
def ovrOut (s : State) : Bool := s.ovr

end Sys2Proof.Machine
end

