-- ==== Sys2Proof/Machine/Encoder.lean ====
section
/-! DEFINITION. The frame encoder: EMIT (R163) and the data frame it sends (R97, R162). -/

namespace Sys2Proof.Machine

/-- The body of EMIT (R163): a sentinel byte, or a word's low byte with its high byte latched, or that latch. -/
def emitByte (s : State) : Host.Outcome State Fault Refusal :=
  if s.encPos < 4 then .next (advanceEncoder (linkSend [0xFF#8] s))
  else if (s.encPos - 4) % 2 = 0 then
    match slotRead s s.encSlot ((s.encPos - 4) / 2) with
    | some w => .next (advanceEncoder { linkSend [lowByte w] s with encHi := highByte w })
    | none => .fault .slotIndexOutOfRange
  else .next (advanceEncoder (linkSend [s.encHi] s))

/-- EMIT (R163). -/
def execEmit (s : State) : Host.Outcome State Fault Refusal :=
  if emitEnabled s then emitByte s else .refused .emitNotEnabled

/-- `n` bytes of the frame, one EMIT each. -/
def emitMany : Nat → State → Host.Outcome State Fault Refusal
  | 0, s => .next s
  | n + 1, s => andThen (emitByte s) (emitMany n)

/-- DATA_FRAME: the bytes of the latched frame from ENC_POS to its end, one EMIT a byte, with TX_READY = 1
throughout and no other agent between (log 13). -/
def execDataFrame (s : State) : Host.Outcome State Fault Refusal :=
  if emitEnabled s then emitMany (frameLength s.encLen - s.encPos) s else .refused .dataFrameNotEnabled

end Sys2Proof.Machine
end

