-- ==== Sys2Proof/Machine/Control.lean ====
section
/-! DEFINITION. The control unit: the acknowledgment line (R218), CONFIGURE (R185) and RESET (R188). -/

namespace Sys2Proof.Machine

/-- Sends `AckLine(EPOCH, FREQ, OSIZE)` (R99, R218). -/
def sendAck (s : State) : State :=
  linkSend (ackLineBytes s.params s.epoch.toNat s.freq.toNat s.osize) s

/-- The success branch of CONFIGURE (R185), in the order of R193. -/
def startAcquiring (e : BitVec 64) (f : BitVec 10) (s : State) : State :=
  startSampler (sendAck (acceptConfig e f (outputSize s.params f.toNat) s))

/-- CONFIGURE's tests in the order of R249 (E1, E2, E3), on the cleared pipeline. -/
def applyConfig (r : ParseResult) (s : State) : State :=
  match r with
  | .malformed => recordError .e1 s
  | .ok e f =>
    if f = 0 then recordError .e2 s
    else if s.params.bufferSize < outputSize s.params f.toNat then recordError .e3 s
    else startAcquiring e f s

/-- The body of CONFIGURE (R185): nothing while FATAL = 1 (R189). -/
def configureWith (r : ParseResult) (s : State) : State :=
  if s.fatal then s else applyConfig r { pipelineClear s with perr := false }

/-- The body of RESET (R188). -/
def resetBlock (s : State) : State := receiverToCmd (clearFlags (pipelineClear s))

/-- CONFIGURE(r) (R185). -/
def execConfigure (r : ParseResult) (s : State) : Host.Outcome State Fault Refusal := .next (configureWith r s)

/-- RESET (R188): always enabled. -/
def execReset (s : State) : Host.Outcome State Fault Refusal := .next (resetBlock s)

/-- ACK_LINE (R99, R218): the output of CONFIGURE's success branch. -/
def execAckLine (s : State) : Host.Outcome State Fault Refusal := .next (sendAck s)

end Sys2Proof.Machine
end

