-- ==== Sys2Proof/Machine/HostLink.lean ====
section
/-! DEFINITION. The host link's receiver: RX_BYTE (R211) and the four rows a received byte can be. -/

namespace Sys2Proof.Machine

/-- The payload branch of R211: stores the byte; the 14th performs CONFIGURE in the same step. -/
def collectPayload (b : Byte) (s : State) : State :=
  let stored := storePayload b s
  if s.rxCnt = 13 then configureWith (parse stored.rxBuf) (receiverToCmd stored)
  else { stored with rxCnt := s.rxCnt + 1 }

/-- RX_BYTE(b) (R211), in any mode and phase: it never stalls (R210) and never fails. -/
def receiveByte (b : Byte) (s : State) : State :=
  if b = codeR then resetBlock s
  else if s.fatal then s
  else if b = codeT then startPayload s
  else match s.rxMode with
    | .cmd => s
    | .payload => collectPayload b s

/-- RX_BYTE (R211). -/
def execRxByte (b : Byte) (s : State) : Host.Outcome State Fault Refusal := .next (receiveByte b s)

/-- RESET_CMD: the byte `'R'` (R213). -/
def execResetCmd (s : State) : Host.Outcome State Fault Refusal := .next (receiveByte codeR s)

/-- CONFIG_CMD: the byte `'T'` (R214); no effect while FATAL = 1 (R216). -/
def execConfigCmd (s : State) : Host.Outcome State Fault Refusal := .next (receiveByte codeT s)

/-- PAYLOAD_BYTE: a byte of a payload (R211). A receiver that is not collecting treats it as R211 says (log 12). -/
def execPayloadByte (b : Byte) (s : State) : Host.Outcome State Fault Refusal := .next (receiveByte b s)

/-- IGNORED_BYTE: a byte that is no command where it stands (R215, R216). Where it is not ignored, R211 says what it
is (log 12). -/
def execIgnoredByte (b : Byte) (s : State) : Host.Outcome State Fault Refusal := .next (receiveByte b s)

end Sys2Proof.Machine
end

