-- ==== Sys2Proof/Machine/FrameBuffer.lean ====
section
/-! DEFINITION. The frame buffer: APPEND (R121) and TAKE (R123). -/

namespace Sys2Proof.Machine

/-- The loop of R121: writes `g` into the active slot from word `i` on, noting overruns of case 2. -/
def writeGroup : List Word → Nat → State → Host.Outcome State Fault Refusal
  | [], _, s => .next s
  | w :: ws, i, s => andThen (slotWrite (noteOverwrite i s) s.active i w) (writeGroup ws (i + 1))

/-- The end of R121: the swap when the frame is complete, else the advanced cursor. -/
def finishAppend (s : State) : State :=
  if s.cursor + s.params.channels = s.osize then swapSlots (noteDrop s)
  else { s with cursor := s.cursor + s.params.channels }

/-- The body of APPEND (R121), inside TICK or on its own. -/
def appendGroup (g : List Word) (s : State) : Host.Outcome State Fault Refusal :=
  if g.length ≠ s.params.channels then .refused .sampleGroupSize
  else if s.osize < s.cursor + s.params.channels then .fault .cursorPastFrame
  else andThen (writeGroup g s.cursor s) (fun s' => .next (finishAppend s'))

/-- APPEND(g): enabled only while `Acquiring` (R121). -/
def execAppend (g : List Word) (s : State) : Host.Outcome State Fault Refusal :=
  if tickEnabled s then appendGroup g s else .refused .appendNotEnabled

/-- TAKE (R123). -/
def execTake (s : State) : Host.Outcome State Fault Refusal :=
  if takeEnabled s then .next (latchFrame s) else .refused .takeNotEnabled

end Sys2Proof.Machine
end

