-- ==== Sys2Proof/Machine/Sampler.lean ====
section
/-! DEFINITION. The sampler: TICK (R145). -/

namespace Sys2Proof.Machine

/-- TICK with the draws `g = SAMPLE_IN` and `t = TIME_NOW` (R145): the boundary update reads CURSOR before APPEND
changes it. TMR_CNT is the clock cycle's (R149, log 9). -/
def execTick (g : List Word) (t : Time) (s : State) : Host.Outcome State Fault Refusal :=
  if tickEnabled s then appendGroup g (noteBoundary t s) else .refused .tickNotEnabled

end Sys2Proof.Machine
end

