-- ==== Sys2Proof/Machine/Clock.lean ====
section
/-! DEFINITION. One clock cycle of the timed hardware: the periodic timer (R143, R144) and the order of the events that
fall in one cycle (R248, log 10). -/

namespace Sys2Proof.Machine

/-- Byte `b` is the 14th of a payload, so receiving it performs CONFIGURE (R211). -/
def completesPayload (b : Byte) (s : State) : Bool :=
  b != codeR && !s.fatal && b != codeT && s.rxMode == .payload && s.rxCnt == 13

/-- Whether this cycle's host byte performs CONFIGURE, which restarts the timer (R185). -/
def restartsTimer (c : CycleInputs) (s : State) : Bool :=
  match c.rx with
  | some b => completesPayload b s
  | none => false

/-- The cycle's input lines. -/
def driveInputs (c : CycleInputs) (s : State) : State := { s with timeNow := c.time, txReady := c.txReady }

/-- (1) RX_BYTE, if a byte arrived. -/
def cycleReceive (c : CycleInputs) (s : State) : State :=
  match c.rx with
  | some b => receiveByte b s
  | none => s

/-- The timer counts one cycle (R144): a TICK fires on the cycle in which TMR_CNT wraps from PERIOD - 1 to 0. -/
def timerCount (c : CycleInputs) (s : State) : Host.Outcome State Fault Refusal :=
  if timerPeriod s.params s.freq.toNat = 0 then .fault .timerPeriodZero
  else if s.tmrCnt + 1 < timerPeriod s.params s.freq.toNat then .next { s with tmrCnt := s.tmrCnt + 1 }
  else execTick c.samples c.time { s with tmrCnt := 0 }

/-- (2) TICK, if the timer fires: it runs exactly while `Acquiring` (R143), and the cycle of a CONFIGURE does not count,
so the first TICK comes one full period later (R144, R248). -/
def cycleTimer (restarted : Bool) (c : CycleInputs) (s : State) : Host.Outcome State Fault Refusal :=
  if tickEnabled s && !restarted then timerCount c s else .next s

/-- (3) TAKE, if it is enabled and the drain engine takes. -/
def cycleTake (c : CycleInputs) (s : State) : Host.Outcome State Fault Refusal :=
  if c.takes && takeEnabled s then execTake s else .next s

/-- (4) EMIT, if it is enabled. -/
def cycleEmit (s : State) : Host.Outcome State Fault Refusal :=
  if emitEnabled s then execEmit s else .next s

/-- One clock cycle (R248): RX_BYTE, TICK, TAKE, EMIT, each seeing the state the previous one left. -/
def clockCycle (c : CycleInputs) (s : State) : Host.Outcome State Fault Refusal :=
  andThen (cycleTimer (restartsTimer c s) c (cycleReceive c (driveInputs c s)))
    (fun s2 => andThen (cycleTake c s2) cycleEmit)

end Sys2Proof.Machine
end

