-- ==== Sys2Proof/Machine/Dispatch.lean ====
section
/-! DEFINITION. The meaning of each operation, one arm a constructor. -/

namespace Sys2Proof.Machine

def exec (i : Instr) (s : State) : Host.Outcome State Fault Refusal :=
  match i with
  | .resetCmd => Sys2Proof.Machine.execResetCmd s
  | .configCmd => Sys2Proof.Machine.execConfigCmd s
  | .payloadByte b => Sys2Proof.Machine.execPayloadByte b s
  | .ignoredByte b => Sys2Proof.Machine.execIgnoredByte b s
  | .rxByte b => Sys2Proof.Machine.execRxByte b s
  | .configure r => Sys2Proof.Machine.execConfigure r s
  | .reset => Sys2Proof.Machine.execReset s
  | .tick g t => Sys2Proof.Machine.execTick g t s
  | .append g => Sys2Proof.Machine.execAppend g s
  | .take => Sys2Proof.Machine.execTake s
  | .emit => Sys2Proof.Machine.execEmit s
  | .ackLine => Sys2Proof.Machine.execAckLine s
  | .dataFrame => Sys2Proof.Machine.execDataFrame s

end Sys2Proof.Machine
end

