-- ==== Sys2Proof/Machine/Fetch.lean ====
section
/-! DEFINITION. Which event is next, and the operation it performs. -/

namespace Sys2Proof.Machine

/-- What the next step runs, and the state it runs it in. -/
inductive Fetched where
  /-- one operation -/
  | instr (i : Instr) (s : State)
  /-- a change of an input line, or a free draw of an agent that has no step here: no operation -/
  | noInstr (s : State)
  /-- one clock cycle of the timed hardware -/
  | cycle (c : CycleInputs) (s : State)
  deriving DecidableEq, Repr

/-- The input lines as an event drives them: `now t` sets TIME_NOW, `emit` comes with TX_READY = 1 (R102). -/
def driveEvent (e : Event) (s : State) : State :=
  match e with
  | .rx _ => s
  | .tick _ _ => s
  | .take => s
  | .emit => { s with txReady := true }
  | .now t => { s with timeNow := t }
  | .cycle _ => s

/-- What event `e` runs in state `s`. -/
def fetchEvent (e : Event) (s : State) : Fetched :=
  match e with
  | .cycle c => .cycle c s
  | e =>
    match decodeEvent s.rxMode s.fatal e with
    | some i => .instr i (driveEvent e s)
    | none => .noInstr (driveEvent e s)

/-- Whether the agent of event `e` has a step (R16, R161): the host and the inputs always have one. -/
def eventEnabled (e : Event) (s : State) : Bool :=
  match e with
  | .rx _ => true
  | .tick _ _ => tickEnabled s
  | .take => takeEnabled s
  | .emit => s.encBusy
  | .now _ => true
  | .cycle _ => true

/-- The n-th free draw (V1 to V4, V7; log 7). -/
def drawEvent (p : Params) (n : Nat) : Event :=
  match Config.drawChoice n with
  | .hostByte => .rx (Config.drawByte n)
  | .timerTick => .tick ((List.range p.channels).map (Config.drawSample n)) (Config.drawTime n)
  | .take => .take
  | .emit => .emit
  | .timeInput => .now (Config.drawTime n)

/-- The next event: the first of the schedule, or a free draw where the schedule is empty. A drawn agent that has no step
makes none. -/
def fetch (s : State) : Fetched :=
  match s.sched with
  | e :: rest => fetchEvent e { s with sched := rest }
  | [] =>
    if eventEnabled (drawEvent s.params s.draws) s then
      fetchEvent (drawEvent s.params s.draws) { s with draws := s.draws + 1 }
    else .noInstr { s with draws := s.draws + 1 }

/-- The schedule with the host bytes of a table word in front (log 6). -/
def scheduleWord (nbits w : Nat) (sched : List Event) : List Event :=
  (tableBytes nbits w).map Event.rx ++ sched

end Sys2Proof.Machine
end

