-- ==== Sys2Proof/Machine/Step.lean ====
section
/-! DEFINITION. One step of the block: one atomic step of one agent (R79), or one clock cycle. -/

namespace Sys2Proof.Machine

/-- Runs what was fetched. -/
def runFetched (f : Fetched) : Host.Outcome State Fault Refusal :=
  match f with
  | .instr i s => exec i s
  | .noInstr s => .next s
  | .cycle c s => clockCycle c s

/-- One step: the next event of the schedule, or a free draw. -/
def step (s : State) : Host.Outcome State Fault Refusal := runFetched (fetch s)

/-- `s` with the bytes of a table word next on the host link, so that the next step runs its first byte. -/
def State.withFetchWord (s : State) (nbits w : Nat) : State := { s with sched := scheduleWord nbits w s.sched }

end Sys2Proof.Machine
end

