-- ==== Sys2Proof/Safety.lean ====
section
/-! DEFINITION. What a run of the block is held to: the invariants of R61, the link's grammar (R222), what may not be
observed (R33, R53, R272), no mixed frame without OVR (R121, R125), and the observation of a run (R283). -/

namespace Sys2Proof.Machine

/-! ## Runs -/

/-- The machine runs `n` steps with the events `es` scheduled. -/
def runSched (es : List Event) (n : Nat) (s : State) : Host.Outcome State Fault Refusal :=
  Host.Core.run Sys2Proof.core n { s with sched := es }

/-- A run of exactly the events `es`, one step each. -/
def runEvents (es : List Event) (s : State) : Host.Outcome State Fault Refusal := runSched es es.length s

/-- Reachable from power-on at well-formed parameters, under some schedule (R61 "reachable from power-on"). -/
def Reachable (s : State) : Prop :=
  ∃ (p : Params) (es : List Event) (n : Nat), p.wf = true ∧ runSched es n (State.powerOn p) = .next s

/-- The event the next step runs: the first of the schedule, or the free draw. -/
def nextEvent (s : State) : Event :=
  match s.sched with
  | e :: _ => e
  | [] => drawEvent s.params s.draws

/-- The host byte an event brings, if any. -/
def eventByte : Event → Option Byte
  | .rx b => some b
  | .tick _ _ => none
  | .take => none
  | .emit => none
  | .now _ => none
  | .cycle c => c.rx

/-- The host byte the next step receives, if any. -/
def incoming (s : State) : Option Byte := eventByte (nextEvent s)

/-- What an observer sees at the end of a finite run (R283). -/
structure Observation where
  linkOut : List Byte
  wait : Bool
  fatalOut : Bool
  perrOut : Bool
  ovrOut : Bool
  deriving DecidableEq, Repr

/-- The observation of a state (R59, R60, R283). -/
def observe (s : State) : Observation := ⟨s.linkOut, waitOut s, fatalOut s, perrOut s, ovrOut s⟩

/-! ## Invariants -/

/-- R61, clause by clause. -/
structure MeetsR61 (s : State) : Prop where
  /-- (i) -/
  cursor_mod : s.cursor % s.params.channels = 0
  /-- (ii) -/
  acquiring : s.phase = .acquiring → s.params.channels ≤ s.osize ∧ s.osize ≤ s.params.bufferSize ∧
    s.osize % s.params.channels = 0 ∧ s.cursor < s.osize ∧ s.fatal = false
  /-- (iii) -/
  idle : s.phase = .idle → s.cursor = 0 ∧ s.ready = false ∧ s.encBusy = false ∧ s.osize = 0
  /-- (iv) -/
  busy : s.encBusy = true → s.encLen = s.osize ∧ s.encPos < 4 + 2 * s.encLen
  /-- (v) -/
  fatal : s.fatal = true → s.phase = .idle
  /-- (vi) -/
  cmd : s.rxMode = .cmd → s.rxCnt = 0

/-- The invariant of the model: R61, and what it takes to keep it. -/
structure Inv (s : State) : Prop extends MeetsR61 s where
  /-- the parameters are well-formed (R6 to R11) -/
  params_wf : s.params.wf = true
  /-- the slot memory is canonical -/
  memory_wf : Memory.wf s.slots
  /-- and lies within the 2 × B words of the slots (R71, R72) -/
  memory_range : ∀ c ∈ s.slots, c.1 < 4 * s.params.bufferSize
  /-- FREQ holds 0..999 (R40) -/
  freq_le : s.freq.toNat ≤ 999
  /-- EPOCH holds 0..9 999 999 999 (R39) -/
  epoch_le : s.epoch.toNat ≤ 9999999999
  /-- while acquiring, FREQ is not 0 and OSIZE is its output size (R40, R185) -/
  configured : s.phase = .acquiring → s.freq ≠ 0 ∧ s.osize = outputSize s.params s.freq.toNat
  /-- TMR_CNT counts 0..PERIOD-1, and is 0 while idle (R44, R187) -/
  timer : s.phase = .acquiring → s.tmrCnt < timerPeriod s.params s.freq.toNat
  timer_idle : s.phase = .idle → s.tmrCnt = 0
  /-- ACTIVE is 0 while idle (R187) -/
  active_idle : s.phase = .idle → s.active = .zero
  /-- ENC_POS is 0 between frames (R50) -/
  pos_idle : s.encBusy = false → s.encPos = 0

/-- While OVR has stayed 0, every word that the sampler has rewritten in the slot being sent had been read (R121 overrun
case 2, R125 (b)): the frame on the link is not mixed. -/
def Unmixed (s : State) : Prop :=
  s.ovr = false → s.encBusy = true → s.encSlot = s.active →
    ∀ i, i < s.cursor → i < s.encLen → 4 + 2 * i < s.encPos

/-! ## The device→host stream (R222) -/

/-- One segment of the stream. -/
inductive Segment where
  /-- an acknowledgment line -/
  | ack (e f os : Nat)
  /-- a complete frame -/
  | frame (w : List Word)
  /-- the first `k` bytes of a frame cut short by RESET or CONFIGURE -/
  | cut (w : List Word) (k : Nat)
  deriving DecidableEq, Repr

/-- The bytes of a segment. -/
def Segment.bytes (p : Params) : Segment → List Byte
  | .ack e f os => ackLineBytes p e f os
  | .frame w => frameBytes w
  | .cut w k => (frameBytes w).take k

/-- The bytes of a sequence of segments. -/
def streamBytes (p : Params) (segs : List Segment) : List Byte := segs.flatMap (Segment.bytes p)

/-- What an acknowledgment line states: EPOCH, FREQ and OSIZE. -/
structure Acked where
  epoch : Nat
  freq : Nat
  osize : Nat
  deriving DecidableEq, Repr

/-- The configuration a state holds. -/
def State.acked (s : State) : Acked := ⟨s.epoch.toNat, s.freq.toNat, s.osize⟩

/-- Reads one segment: `cfg` is what the last ack states, while its frames may come. An ack states the output size of a legal
configuration; a frame has that many words; a frame cut short ends the configuration's frames. -/
def Segment.after (p : Params) (cfg : Option Acked) : Segment → Option (Option Acked)
  | .ack e f os =>
    if e ≤ 9999999999 ∧ 1 ≤ f ∧ f ≤ 999 ∧ os = outputSize p f ∧ os ≤ p.bufferSize then some (some ⟨e, f, os⟩) else none
  | .frame w => if cfg.map Acked.osize = some w.length then some cfg else none
  | .cut w k => if cfg.map Acked.osize = some w.length ∧ k < frameLength w.length then some none else none

/-- Reads a sequence of segments. Nothing, if one of them may not stand where it stands. -/
def streamAfter (p : Params) (cfg : Option Acked) : List Segment → Option (Option Acked)
  | [] => some cfg
  | g :: rest =>
    match Segment.after p cfg g with
    | some cfg' => streamAfter p cfg' rest
    | none => none

/-- R222: LINK_OUT is a sequence of segments, and after them the part of the current frame that has been sent. While
acquiring, the last ack is that of the current EPOCH, FREQ and OSIZE, and its frames may come. -/
def LinkGrammar (s : State) : Prop :=
  ∃ (segs : List Segment) (cfg : Option Acked), streamAfter s.params none segs = some cfg ∧
    (s.phase = .acquiring → cfg = some s.acked) ∧
    if s.encBusy then
      ∃ w : List Word, w.length = s.encLen ∧
        s.linkOut = streamBytes s.params segs ++ (frameBytes w).take s.encPos
    else s.linkOut = streamBytes s.params segs

/-! ## What may not be observed -/

/-- Two states that may differ only in what the spec says is never observed: slot words not written since the last swap, take or
configuration, payload bytes not yet received, words of the frame already sent (R33, R53), and, where RESET and power-on
differ, EPOCH, TS, TPREV always, FREQ while idle, and the encoder's latches while it is not busy (R272). -/
structure Indist (s t : State) : Prop where
  params : s.params = t.params
  active : s.active = t.active
  cursor : s.cursor = t.cursor
  ready : s.ready = t.ready
  osize : s.osize = t.osize
  phase : s.phase = t.phase
  fatal : s.fatal = t.fatal
  perr : s.perr = t.perr
  ovr : s.ovr = t.ovr
  tmrCnt : s.tmrCnt = t.tmrCnt
  encBusy : s.encBusy = t.encBusy
  encPos : s.encPos = t.encPos
  rxMode : s.rxMode = t.rxMode
  rxCnt : s.rxCnt = t.rxCnt
  linkOut : s.linkOut = t.linkOut
  timeNow : s.timeNow = t.timeNow
  txReady : s.txReady = t.txReady
  sched : s.sched = t.sched
  draws : s.draws = t.draws
  freq : s.phase = .acquiring → s.freq = t.freq
  encSlot : s.encBusy = true → s.encSlot = t.encSlot
  encLen : s.encBusy = true → s.encLen = t.encLen
  encHi : s.encBusy = true → 4 < s.encPos → s.encPos % 2 = 1 → s.encHi = t.encHi
  written : ∀ i, i < s.cursor → slotWord s s.active i = slotWord t s.active i
  readyWords : s.ready = true → ∀ i, i < s.osize → slotWord s s.active.other i = slotWord t s.active.other i
  unsent : s.encBusy = true → ∀ i, i < s.encLen → s.encPos ≤ 4 + 2 * i →
    slotWord s s.encSlot i = slotWord t s.encSlot i
  received : s.rxMode = .payload → ∀ k : Fin 14, k < s.rxCnt → s.rxBuf[k] = t.rxBuf[k]

/-! ## Timing figures (R278, R281) -/

/-- The link rate hazard H4 asks for, in bytes a second, rounded down (R278): `(4 + 2*OSIZE) * FREQ * C / OSIZE`. -/
def linkRate (p : Params) (f : Nat) : Nat :=
  frameLength (outputSize p f) * f * p.channels / outputSize p f

/-- A state less what the clock alone writes: TMR_CNT, TX_READY, and the schedule (R149). -/
def untimed (s : State) : State := { s with tmrCnt := 0, txReady := false, sched := [] }

end Sys2Proof.Machine
end

