-- ==== Sys2Proof/Certificates/Slice0/Obligations.lean ====
section
/-! DEFINITION. The statements for the provers. Each docstring names the rule it rests on. -/

open Sys2Proof Sys2Proof.Machine

/-! ## Reset -/

/-- R270 (the power-on column of R32): every element but SLOT and RX_BUF, which are unspecified there. -/
def Obligations.PowerOnValues : Prop :=
  ∀ p : Params, ∀ s, s = State.powerOn p →
    s.active = .zero ∧ s.cursor = 0 ∧ s.ready = false ∧ s.osize = 0 ∧ s.phase = .idle ∧ s.epoch = 0 ∧ s.freq = 0 ∧
    s.fatal = false ∧ s.perr = false ∧ s.ovr = false ∧ s.tmrCnt = 0 ∧ s.ts = 0 ∧ s.tprev = 0 ∧ s.encBusy = false ∧
    s.encSlot = .zero ∧ s.encLen = 0 ∧ s.encPos = 0 ∧ s.encHi = 0 ∧ s.rxMode = .cmd ∧ s.rxCnt = 0 ∧ s.linkOut = [] ∧
    observe s = ⟨[], true, false, false, false⟩

/-- The invariant holds after power-on, at any well-formed parameters and under any schedule (R61, R270). -/
def Obligations.PowerOnMeetsInvariant : Prop :=
  ∀ (p : Params) (es : List Event), p.wf = true → Inv { State.powerOn p with sched := es }

/-- R188 with R187: RESET in any state. -/
def Obligations.ResetRule : Prop :=
  ∀ s : State, exec .reset s = .next
    { s with phase := .idle, tmrCnt := 0, cursor := 0, ready := false, active := .zero, osize := 0, encBusy := false
             encPos := 0, fatal := false, perr := false, ovr := false, rxMode := .cmd, rxCnt := 0 }

/-- R190: RESET twice is RESET once; RESET leaves `Idle` and OSIZE = 0 from any phase. -/
def Obligations.ResetIsIdempotent : Prop :=
  ∀ s t : State, exec .reset s = .next t → exec .reset t = .next t ∧ t.phase = .idle ∧ t.osize = 0

/-- R272, its first sentence: where RESET and power-on differ. The schedule, the draw counter and the two held inputs are the
environment's, not the block's. -/
def Obligations.ResetAgainstPowerOn : Prop :=
  ∀ s t : State, exec .reset s = .next t →
    t = { State.powerOn s.params with
            epoch := s.epoch, freq := s.freq, ts := s.ts, tprev := s.tprev, encSlot := s.encSlot, encLen := s.encLen
            encHi := s.encHi, rxBuf := s.rxBuf, slots := s.slots, linkOut := s.linkOut
            timeNow := s.timeNow, txReady := s.txReady, sched := s.sched, draws := s.draws }

/-! ## Steps and decoding -/

/-- A step runs the operation its next event decodes to, in the state that the event's inputs leave (R79, R102); `now` only
sets the input, and a cycle event is one clock cycle. -/
def Obligations.StepRunsScheduledEvent : Prop :=
  ∀ (s : State) (e : Event) (rest : List Event), s.sched = e :: rest →
    (∀ i, decodeEvent s.rxMode s.fatal e = some i → step s = exec i (driveEvent e { s with sched := rest })) ∧
    (∀ t, e = .now t → step s = .next { s with sched := rest, timeNow := t }) ∧
    (∀ c, e = .cycle c → step s = clockCycle c { s with sched := rest })

/-- Where the schedule is empty a step counts a free draw and, if the drawn agent has a step, runs it: its operation, or the new
value of the time input (the model's choice: log 7). It holds whatever the draws are. -/
def Obligations.StepRunsFreeDraw : Prop :=
  ∀ (s : State), s.sched = [] →
    let e := drawEvent s.params s.draws
    let s' : State := { s with draws := s.draws + 1 }
    step s =
      if eventEnabled e s then
        match decodeEvent s.rxMode s.fatal e with
        | some i => exec i (driveEvent e s')
        | none => .next (driveEvent e s')
      else .next s'

/-- Host bytes written out from R91, R92 and the notes of the table's rows decode to their rows. -/
def Obligations.HostBytesDecodeToTheirRows : Prop :=
  decode .cmd false [0x52#8] = .ok (.resetCmd, []) ∧ decode .payload true [0x52#8] = .ok (.resetCmd, []) ∧
  decode .cmd false [0x54#8, 0x31#8] = .ok (.configCmd, [0x31#8]) ∧
  decode .payload false [0x54#8] = .ok (.configCmd, []) ∧
  decode .payload false [0x46#8] = .ok (.payloadByte 0x46#8, []) ∧
  decode .cmd false [0x46#8] = .ok (.ignoredByte 0x46#8, []) ∧
  decode .payload true [0x54#8] = .ok (.ignoredByte 0x54#8, []) ∧
  (∃ e, decode .cmd false [] = .error e)

/-- Decode and encode agree on the host-byte rows, in every receiver state and for every byte, in both directions; the events of
the other agents decode to their operations, and RX_BYTE's to its byte's row (R90 to R92, R100 to R102). -/
def Obligations.DecodeEncodeAgree : Prop :=
  (∀ (m : RxMode) (fatal : Bool) (i : Instr) (rest : List Byte), i.admitted m fatal = true →
    decode m fatal (encode i ++ rest) = .ok (i, rest)) ∧
  (∀ (p : Params) (m : RxMode) (fatal : Bool) (b : Byte) (rest : List Byte), ∃ i,
    decode m fatal (b :: rest) = .ok (i, rest) ∧ i.admitted m fatal = true ∧ i.wf p = true ∧ encode i = [b]) ∧
  (∀ (m : RxMode) (fatal : Bool) (i : Instr) (e : Event), encodeEvent i = some e →
    (i.admitted m fatal = true ∨ (encode i = [] ∧ ∀ b, i ≠ .rxByte b)) → decodeEvent m fatal e = some i) ∧
  (∀ (m : RxMode) (fatal : Bool) (b : Byte), ∃ e i, encodeEvent (.rxByte b) = some e ∧ decodeEvent m fatal e = some i ∧
    decode m fatal [b] = .ok (i, []))

/-- R101: the internal operations have no bytes, and no bytes are one of them. -/
def Obligations.InternalOperationsHaveNoEncoding : Prop :=
  ∀ (b : Byte) (r : ParseResult) (g : List Word) (t : Time),
    ∀ i ∈ ([.tick g t, .append g, .take, .emit, .configure r, .reset, .rxByte b] : List Instr),
      encode i = [] ∧ ∀ (m : RxMode) (fatal : Bool) (bytes rest : List Byte), decode m fatal bytes ≠ .ok (i, rest)

/-- R212 with R93 and R94: the exact-match parse, its digit sums written out. -/
def Obligations.ParseRule : Prop :=
  ∀ p : Vector Byte 14,
    let good := (∀ k : Fin 14, k.val < 10 → 0x30 ≤ p[k].toNat ∧ p[k].toNat ≤ 0x39) ∧ p[10] = 0x46#8 ∧
      (∀ k : Fin 14, 11 ≤ k.val → 0x30 ≤ p[k].toNat ∧ p[k].toNat ≤ 0x39)
    (good → ∃ e f, parse p = .ok e f ∧
      e.toNat = ((List.range 10).map (fun k => (p[k]!.toNat - 0x30) * 10 ^ (9 - k))).sum ∧
      f.toNat = ((List.range 3).map (fun k => (p[11 + k]!.toNat - 0x30) * 10 ^ (2 - k))).sum) ∧
    (¬ good → parse p = .malformed)

/-- The payload of every epoch of at most 10 digits and every frequency of at most 3 parses to them, and nothing else parses to
them (R92 to R95). -/
def Obligations.PayloadParseEncodeAgree : Prop :=
  (∀ e f : Nat, e ≤ 9999999999 → f ≤ 999 →
    parse (encodePayload e f) = .ok (BitVec.ofNat 64 e) (BitVec.ofNat 10 f)) ∧
  (∀ (p : Vector Byte 14) (e : BitVec 64) (f : BitVec 10), parse p = .ok e f →
    e.toNat ≤ 9999999999 ∧ f.toNat ≤ 999 ∧ p = encodePayload e.toNat f.toNat)

/-! ## Receiver -/

/-- R211: RX_BYTE in every mode, every branch. -/
def Obligations.ReceiveByteRule : Prop :=
  ∀ (s : State) (b : Byte),
    (b = 0x52#8 → exec (.rxByte b) s = exec .reset s) ∧
    (b ≠ 0x52#8 → s.fatal = true → exec (.rxByte b) s = .next s) ∧
    (b = 0x54#8 → s.fatal = false → exec (.rxByte b) s = .next { s with rxMode := .payload, rxCnt := 0 }) ∧
    (b ≠ 0x52#8 → b ≠ 0x54#8 → s.fatal = false → s.rxMode = .cmd → exec (.rxByte b) s = .next s) ∧
    (b ≠ 0x52#8 → b ≠ 0x54#8 → s.fatal = false → s.rxMode = .payload → s.rxCnt ≠ 13 →
      exec (.rxByte b) s = .next { s with rxBuf := s.rxBuf.set s.rxCnt b, rxCnt := s.rxCnt + 1 }) ∧
    (b ≠ 0x52#8 → b ≠ 0x54#8 → s.fatal = false → s.rxMode = .payload → s.rxCnt = 13 →
      exec (.rxByte b) s = exec (.configure (parse (s.rxBuf.set 13 b)))
        { s with rxBuf := s.rxBuf.set 13 b, rxMode := .cmd, rxCnt := 0 })

/-- RX_BYTE performs the row its byte is, in every state (R211). -/
def Obligations.ReceivedByteIsItsRow : Prop :=
  ∀ (s : State) (b : Byte), exec (.rxByte b) s = exec (classify s.rxMode s.fatal b) s

/-- The four host-byte rows and RX_BYTE complete in every state, the rows where they can occur with their effect (R211, R213 to
R216, R283). That IGNORED_BYTE and PAYLOAD_BYTE complete also where the row cannot occur, as RX_BYTE of their byte (the last
clause), is the model's choice (log 12). -/
def Obligations.HostByteRowsComplete : Prop :=
  (∀ s : State, exec .resetCmd s = .next
    { s with phase := .idle, tmrCnt := 0, cursor := 0, ready := false, active := .zero, osize := 0, encBusy := false
             encPos := 0, fatal := false, perr := false, ovr := false, rxMode := .cmd, rxCnt := 0 }) ∧
  (∀ s : State, exec .configCmd s = .next (if s.fatal then s else { s with rxMode := .payload, rxCnt := 0 })) ∧
  (∀ (s : State) (b : Byte), (Instr.ignoredByte b).admitted s.rxMode s.fatal = true → exec (.ignoredByte b) s = .next s) ∧
  (∀ (s : State) (b : Byte), (Instr.payloadByte b).admitted s.rxMode s.fatal = true → s.rxCnt ≠ 13 →
    exec (.payloadByte b) s = .next { s with rxBuf := s.rxBuf.set s.rxCnt b, rxCnt := s.rxCnt + 1 }) ∧
  (∀ (s : State) (b : Byte), (Instr.payloadByte b).admitted s.rxMode s.fatal = true → s.rxCnt = 13 →
    exec (.payloadByte b) s = exec (.configure (parse (s.rxBuf.set 13 b)))
      { s with rxBuf := s.rxBuf.set 13 b, rxMode := .cmd, rxCnt := 0 }) ∧
  (∀ (s : State) (b : Byte), ∃ t, exec (.rxByte b) s = .next t ∧ exec (.ignoredByte b) s = .next t ∧
    exec (.payloadByte b) s = .next t)

/-- R217: while no byte arrives, the receiver keeps its mode, count and buffer, whatever else happens. -/
def Obligations.PayloadStaysPending : Prop :=
  ∀ s t : State, step s = .next t → incoming s = none →
    t.rxMode = s.rxMode ∧ t.rxCnt = s.rxCnt ∧ t.rxBuf = s.rxBuf

/-- The 15 bytes of a CONFIGURE command, sent one after the other in any receiver mode with FATAL = 0, perform CONFIGURE of what
they encode (R92, R211, R212, R214). -/
def Obligations.CommandBytesPerformConfigure : Prop :=
  ∀ (s : State) (e f : Nat), s.fatal = false → e ≤ 9999999999 → f ≤ 999 →
    runEvents ((encodeConfigure e f).map Event.rx) s =
      exec (.configure (.ok (BitVec.ofNat 64 e) (BitVec.ofNat 10 f)))
        { s with sched := [], rxMode := .cmd, rxCnt := 0, rxBuf := encodePayload e f }

/-! ## Control unit -/

/-- R182 and R183: the output size is the floor of `f * SP`, in groups of `C`, at least one group; always a multiple of `C`. -/
def Obligations.OutputSizeRule : Prop :=
  ∀ (p : Params) (f : Nat), 1 ≤ p.spDen →
    (∃ q, q * p.spDen ≤ f * p.spNum ∧ f * p.spNum < (q + 1) * p.spDen ∧
      outputSize p f = max p.channels (q * p.channels)) ∧
    outputSize p f % p.channels = 0 ∧ p.channels ≤ outputSize p f

/-- R185, every branch, with the tests in the order of R249: no effect while FATAL = 1; E1, E2, E3 on the cleared pipeline; or
the start, whose ack bytes go on the link. -/
def Obligations.ConfigureRule : Prop :=
  ∀ (s : State) (r : ParseResult),
    let c : State := { s with phase := .idle, tmrCnt := 0, cursor := 0, ready := false, active := .zero, osize := 0
                              encBusy := false, encPos := 0, perr := false }
    (s.fatal = true → exec (.configure r) s = .next s) ∧
    (s.fatal = false → r = .malformed → exec (.configure r) s = .next { c with perr := true }) ∧
    (∀ e, s.fatal = false → r = .ok e 0 → exec (.configure r) s = .next { c with perr := true }) ∧
    (∀ e f, s.fatal = false → r = .ok e f → f ≠ 0 → s.params.bufferSize < outputSize s.params f.toNat →
      exec (.configure r) s = .next { c with fatal := true }) ∧
    (∀ e f, s.fatal = false → r = .ok e f → f ≠ 0 → outputSize s.params f.toNat ≤ s.params.bufferSize →
      exec (.configure r) s = .next
        { c with epoch := e, freq := f, osize := outputSize s.params f.toNat
                 linkOut := s.linkOut ++ ackLineBytes s.params e.toNat f.toNat (outputSize s.params f.toNat)
                 ts := 0, tprev := s.timeNow, tmrCnt := 0, phase := .acquiring })

/-- R218: ACK_LINE, and the three texts it is made of. That it is an operation of its own, which completes in every state, is the
model's choice (log 13): in a run only CONFIGURE's success branch sends an ack. -/
def Obligations.AckLineRule : Prop :=
  (∀ s : State, exec .ackLine s = .next
    { s with linkOut := s.linkOut ++ (decText s.epoch.toNat ++ [0x20#8] ++ dec3Text s.freq.toNat ++ [0x20#8] ++
                                      decText s.osize ++ s.params.ackEol) }) ∧
  (∀ n : Nat, decValue (decText n) = n ∧ (decText n).all isDigit = true ∧ decText n ≠ [] ∧
    ((decText n).head? = some 0x30#8 → n = 0 ∧ decText n = [0x30#8])) ∧
  (∀ n : Nat, n ≤ 999 → (dec3Text n).length = 3 ∧ decValue (dec3Text n) = n ∧ (dec3Text n).all isDigit = true)

/-- R191: a step enters `Acquiring` from `Idle` only by the 14th byte of a payload that parses with a frequency that is not 0,
and then with `C <= OSIZE <= B`. -/
def Obligations.AcquiringOnlyByConfiguration : Prop :=
  ∀ s t : State, step s = .next t → s.phase = .idle → t.phase = .acquiring →
    ∃ b e f, incoming s = some b ∧ completesPayload b s = true ∧ parse (s.rxBuf.set 13 b) = .ok e f ∧ f ≠ 0 ∧
      t.osize = outputSize s.params f.toNat ∧ s.params.channels ≤ t.osize ∧ t.osize ≤ s.params.bufferSize

/-- R189: while FATAL = 1 a step that does not receive `'R'` changes nothing of the block, and TICK, TAKE and EMIT are not
enabled. -/
def Obligations.FatalStateIsInert : Prop :=
  ∀ s : State, Inv s → s.fatal = true →
    (∀ t, step s = .next t → incoming s ≠ some 0x52#8 →
      t = { s with sched := t.sched, draws := t.draws, timeNow := t.timeNow, txReady := t.txReady }) ∧
    (∀ g t, exec (.tick g t) s = .refused .tickNotEnabled) ∧ exec .take s = .refused .takeNotEnabled ∧
    exec .emit s = .refused .emitNotEnabled ∧ (∀ r, exec (.configure r) s = .next s)

/-- R250 (R41, R42, R43): FATAL and OVR are cleared only by RESET, PERR only by RESET or by a CONFIGURE. -/
def Obligations.ErrorFlagsClearedOnlyByReset : Prop :=
  ∀ s t : State, step s = .next t →
    (s.fatal = true → t.fatal = false → incoming s = some 0x52#8) ∧
    (s.ovr = true → t.ovr = false → incoming s = some 0x52#8) ∧
    (s.perr = true → t.perr = false →
      incoming s = some 0x52#8 ∨ ∃ b, incoming s = some b ∧ completesPayload b s = true)

/-- The status outputs follow PHASE and the flags in every state (R59, R60). -/
def Obligations.StatusOutputsFollowState : Prop :=
  ∀ s : State, (waitOut s = true ↔ s.phase = .idle) ∧ fatalOut s = s.fatal ∧ perrOut s = s.perr ∧ ovrOut s = s.ovr

/-! ## Frame buffer and sampler -/

/-- R121 (with R80): APPEND writes the group at the cursor and nothing else, sets OVR exactly in the two overrun cases, and swaps
exactly when the frame is complete. -/
def Obligations.AppendRule : Prop :=
  ∀ (s : State) (g : List Word), s.phase = .acquiring → g.length = s.params.channels →
    s.cursor + s.params.channels ≤ s.osize → s.osize ≤ s.params.bufferSize →
    ∃ t, exec (.append g) s = .next t ∧
      (∀ c, c < s.params.channels → some (slotWord t s.active (s.cursor + c)) = g[c]?) ∧
      (∀ a, (∀ c, c < s.params.channels → a ≠ slotAddr s.params s.active (s.cursor + c) ∧
          a ≠ slotAddr s.params s.active (s.cursor + c) + 1) →
        Memory.readByte t.slots a = Memory.readByte s.slots a) ∧
      (t.ovr = true ↔ s.ovr = true ∨ (s.cursor + s.params.channels = s.osize ∧ s.ready = true) ∨
        ∃ c, c < s.params.channels ∧ s.encBusy = true ∧ s.encSlot = s.active ∧ s.cursor + c < s.encLen ∧
          s.encPos ≤ 4 + 2 * (s.cursor + c)) ∧
      (s.cursor + s.params.channels = s.osize →
        t = { s with slots := t.slots, ovr := t.ovr, ready := true, active := s.active.other, cursor := 0 }) ∧
      (s.cursor + s.params.channels ≠ s.osize →
        t = { s with slots := t.slots, ovr := t.ovr, cursor := s.cursor + s.params.channels })

/-- R145: TICK is the boundary update of TS and TPREV and then APPEND, in one step; it completes wherever APPEND does, and is
not enabled (refused: log 8) while `Idle`. -/
def Obligations.TickRule : Prop :=
  ∀ (s : State) (g : List Word) (t : Time),
    (s.phase = .acquiring → exec (.tick g t) s =
      exec (.append g) (if s.cursor = 0 then { s with ts := s.ts + (t - s.tprev), tprev := t } else s)) ∧
    (s.phase = .acquiring → g.length = s.params.channels → s.cursor + s.params.channels ≤ s.osize →
      s.osize ≤ s.params.bufferSize →
      ∃ u, exec (.tick g t) s = .next u ∧
        (s.cursor = 0 → u.ts.toNat = (s.ts.toNat + (t.toNat + 2 ^ 32 - s.tprev.toNat) % 2 ^ 32) % 2 ^ 32 ∧ u.tprev = t) ∧
        (s.cursor ≠ 0 → u.ts = s.ts ∧ u.tprev = s.tprev)) ∧
    (s.phase = .idle → exec (.tick g t) s = .refused .tickNotEnabled)

/-- Where the sampler stops, by the model's choices: not enabled while `Idle` (R121, R145; log 8), no group of `C` words (R54;
log 17), and the states that R121 and R72 call unreachable (log 11). -/
def Obligations.SamplerStops : Prop :=
  ∀ (s : State) (g : List Word) (t : Time),
    (s.phase = .idle → exec (.append g) s = .refused .appendNotEnabled) ∧
    (s.phase = .acquiring → g.length ≠ s.params.channels →
      exec (.append g) s = .refused .sampleGroupSize ∧ exec (.tick g t) s = .refused .sampleGroupSize) ∧
    (s.phase = .acquiring → g.length = s.params.channels → s.osize < s.cursor + s.params.channels →
      exec (.append g) s = .fault .cursorPastFrame ∧ exec (.tick g t) s = .fault .cursorPastFrame) ∧
    (s.phase = .acquiring → g ≠ [] → g.length = s.params.channels → s.cursor + s.params.channels ≤ s.osize →
      s.params.bufferSize < s.cursor + s.params.channels →
      exec (.append g) s = .fault .slotIndexOutOfRange ∧ exec (.tick g t) s = .fault .slotIndexOutOfRange)

/-- R123: TAKE latches the ready slot and clears READY; it is not enabled (refused: log 8) anywhere else. -/
def Obligations.TakeRule : Prop :=
  ∀ s : State,
    (s.ready = true → s.encBusy = false → exec .take s = .next
      { s with encSlot := s.active.other, encLen := s.osize, encPos := 0, encBusy := true, ready := false }) ∧
    (s.ready = false ∨ s.encBusy = true → exec .take s = .refused .takeNotEnabled)

/-- R72: SlotRead after SlotWrite, and no other word changes; below `B` both happen, and from `B` on neither does. -/
def Obligations.SlotMemoryRule : Prop :=
  ∀ (s : State) (k : Slot) (i : Nat) (v : Word),
    (i < s.params.bufferSize → ∃ t, slotWrite s k i v = .next t ∧ slotRead t k i = some v ∧
      (∀ k' j, ¬ (k' = k ∧ j = i) → slotRead t k' j = slotRead s k' j) ∧ t = { s with slots := t.slots }) ∧
    (s.params.bufferSize ≤ i → slotWrite s k i v = .fault .slotIndexOutOfRange ∧ slotRead s k i = none)

/-- R146: TS - TPREV is the same after every step but a successful CONFIGURE, which sets TS to 0 and TPREV to TIME_NOW; so TS is
the time from the CONFIGURE to the last frame boundary. -/
def Obligations.TimestampMeasuresFromConfiguration : Prop :=
  ∀ s t : State, step s = .next t →
    t.ts - t.tprev = s.ts - s.tprev ∨
    (t.ts = 0 ∧ t.tprev = t.timeNow ∧ t.phase = .acquiring ∧ ∃ b, incoming s = some b ∧ completesPayload b s = true)

/-! ## Encoder -/

/-- R162: the bytes of a frame, one by one. -/
def Obligations.FrameBytesRule : Prop :=
  ∀ w : List Word, (frameBytes w).length = 4 + 2 * w.length ∧
    (∀ k, k < 4 → (frameBytes w)[k]? = some 0xFF#8) ∧
    (∀ i v, w[i]? = some v → (frameBytes w)[4 + 2 * i]? = some (v.extractLsb' 0 8) ∧
      (frameBytes w)[5 + 2 * i]? = some (v.extractLsb' 8 8))

/-- R166: decoding a frame gives its words back, and each word is its low byte plus 256 times its high byte. -/
def Obligations.FrameRoundTrip : Prop :=
  ∀ w : List Word, decodeFrame (frameBytes w) = some w ∧
    ∀ i v lo hi, w[i]? = some v → (frameBytes w)[4 + 2 * i]? = some lo → (frameBytes w)[5 + 2 * i]? = some hi →
      v.toNat = lo.toNat + 256 * hi.toNat

/-- R165 for one frame among neighbours: where every sample has at most 15 bits and the stream before the frame does not end in
0xFF, the only windows of four 0xFF that touch the frame are its sentinel and, if the first low byte is 0xFF, the one after. -/
def Obligations.SentinelWindows : Prop :=
  ∀ (before after : List Byte) (w : List Word) (j : Nat),
    (∀ v ∈ w, v.toNat ≤ 0x7FFF) → w ≠ [] → before.getLast? ≠ some 0xFF#8 →
    before.length < j + 4 → j < before.length + (frameBytes w).length →
    ((before ++ frameBytes w ++ after).drop j).take 4 = [0xFF#8, 0xFF#8, 0xFF#8, 0xFF#8] →
    j = before.length ∨ (j = before.length + 1 ∧ ∃ v, w.head? = some v ∧ v.extractLsb' 0 8 = 0xFF#8)

/-- R163: EMIT, every branch: the byte sent, the latch, the position or the end of the frame; not enabled (refused: log 8) without
ENC_BUSY and TX_READY. -/
def Obligations.EmitRule : Prop :=
  ∀ s : State,
    let next (u : State) : State :=
      if s.encPos + 1 = 4 + 2 * s.encLen then { u with encBusy := false, encPos := 0 } else { u with encPos := s.encPos + 1 }
    let i := (s.encPos - 4) / 2
    (s.encBusy = true → s.txReady = true → s.encPos < 4 →
      exec .emit s = .next (next { s with linkOut := s.linkOut ++ [0xFF#8] })) ∧
    (s.encBusy = true → s.txReady = true → 4 ≤ s.encPos → (s.encPos - 4) % 2 = 0 → i < s.params.bufferSize →
      exec .emit s = .next (next { s with linkOut := s.linkOut ++ [(slotWord s s.encSlot i).extractLsb' 0 8]
                                          encHi := (slotWord s s.encSlot i).extractLsb' 8 8 })) ∧
    (s.encBusy = true → s.txReady = true → 4 ≤ s.encPos → (s.encPos - 4) % 2 = 1 →
      exec .emit s = .next (next { s with linkOut := s.linkOut ++ [s.encHi] })) ∧
    (s.encBusy = false ∨ s.txReady = false → exec .emit s = .refused .emitNotEnabled)

/-- Where the encoder stops by the model's choice (log 11): a word index of `B` or more, which R72 calls unreachable. -/
def Obligations.EncoderStops : Prop :=
  ∀ s : State, s.encBusy = true → s.txReady = true → 4 ≤ s.encPos → (s.encPos - 4) % 2 = 0 →
    s.params.bufferSize ≤ (s.encPos - 4) / 2 →
    exec .emit s = .fault .slotIndexOutOfRange ∧
    (s.encPos < 4 + 2 * s.encLen → exec .dataFrame s = .fault .slotIndexOutOfRange)

/-- The two link bytes of a sample come from one read of its word (R73): whatever TICK comes between the EMIT of the low byte and
that of the high byte, also one that rewrites the word, the high byte is that of the word as it was. -/
def Obligations.SampleBytesComeFromOneRead : Prop :=
  ∀ (s t u v : State) (g : List Word) (n : Time), 4 ≤ s.encPos → s.encPos % 2 = 0 → s.encPos + 1 < 4 + 2 * s.encLen →
    exec .emit s = .next t → exec (.tick g n) t = .next u → exec .emit u = .next v →
    v.linkOut = s.linkOut ++ [(slotWord s s.encSlot ((s.encPos - 4) / 2)).extractLsb' 0 8,
                              (slotWord s s.encSlot ((s.encPos - 4) / 2)).extractLsb' 8 8]

/-- DATA_FRAME puts what is left of the latched frame on the link: FrameBytes of the slot's words from ENC_POS on, a latched
high byte first (R162, R163, R73), and ends the frame. -/
def Obligations.DataFrameSendsFrameBytes : Prop :=
  ∀ s : State,
    let f := frameBytes ((List.range s.encLen).map (slotWord s s.encSlot))
    (s.encBusy = true → s.txReady = true → s.encLen ≤ s.params.bufferSize → s.encPos < 4 + 2 * s.encLen →
      ∃ t, exec .dataFrame s = .next t ∧
        t = { s with linkOut := t.linkOut, encBusy := false, encPos := 0, encHi := t.encHi } ∧
        t.linkOut = s.linkOut ++
          (if 4 < s.encPos ∧ s.encPos % 2 = 1 then s.encHi :: f.drop (s.encPos + 1) else f.drop s.encPos)) ∧
    (s.encBusy = false ∨ s.txReady = false → exec .dataFrame s = .refused .dataFrameNotEnabled)

/-! ## Frames: what the operations leave alone -/

/-- Every operation but TICK and APPEND leaves every byte of the slot memory as it was; TICK and APPEND change only the bytes of
the `C` words at the cursor of the active slot (R78, R147). -/
def Obligations.SlotMemoryFrame : Prop :=
  ∀ (s t : State) (i : Instr), exec i s = .next t →
    ((∀ g u, i ≠ .tick g u) → (∀ g, i ≠ .append g) →
      ∀ a, Memory.readByte t.slots a = Memory.readByte s.slots a) ∧
    (∀ a, (∀ c, c < s.params.channels → a ≠ slotAddr s.params s.active (s.cursor + c) ∧
        a ≠ slotAddr s.params s.active (s.cursor + c) + 1) →
      Memory.readByte t.slots a = Memory.readByte s.slots a)

/-- What the receiver's operations and CONFIGURE and RESET leave alone: the parameters, the encoder's latches, the inputs and
the schedule; RX_BUF unless they store a payload byte; and they only add to LINK_OUT (R187, R211). -/
def Obligations.ControlFrame : Prop :=
  ∀ (s t : State) (i : Instr) (b : Byte) (r : ParseResult),
    (i = .resetCmd ∨ i = .configCmd ∨ i = .payloadByte b ∨ i = .ignoredByte b ∨ i = .rxByte b ∨ i = .configure r ∨
      i = .reset) → exec i s = .next t →
    t = { s with active := t.active, cursor := t.cursor, ready := t.ready, osize := t.osize, phase := t.phase
                 epoch := t.epoch, freq := t.freq, fatal := t.fatal, perr := t.perr, ovr := t.ovr, tmrCnt := t.tmrCnt
                 ts := t.ts, tprev := t.tprev, encBusy := t.encBusy, encPos := t.encPos, rxMode := t.rxMode
                 rxCnt := t.rxCnt, rxBuf := t.rxBuf, linkOut := t.linkOut } ∧
    s.linkOut <+: t.linkOut ∧
    ((i = .resetCmd ∨ i = .configCmd ∨ i = .configure r ∨ i = .reset) → t.rxBuf = s.rxBuf) ∧
    ((i = .resetCmd ∨ i = .configCmd ∨ i = .reset) → t.linkOut = s.linkOut ∧ t.epoch = s.epoch ∧ t.freq = s.freq ∧
      t.ts = s.ts ∧ t.tprev = s.tprev) ∧
    (t.phase = .idle → t.linkOut = s.linkOut ∧ t.epoch = s.epoch ∧ t.freq = s.freq ∧ t.ts = s.ts ∧ t.tprev = s.tprev)

/-- What the sampler's operations leave alone: everything but SLOT, CURSOR, READY, ACTIVE, OVR and, for TICK, TS and TPREV
(R121, R145). -/
def Obligations.SamplerFrame : Prop :=
  ∀ (s t : State) (g : List Word) (u : Time),
    (exec (.append g) s = .next t →
      t = { s with slots := t.slots, cursor := t.cursor, ready := t.ready, active := t.active, ovr := t.ovr }) ∧
    (exec (.tick g u) s = .next t →
      t = { s with slots := t.slots, cursor := t.cursor, ready := t.ready, active := t.active, ovr := t.ovr
                   ts := t.ts, tprev := t.tprev })

/-- What the drain engine's operations leave alone: TAKE changes only READY and the encoder, EMIT and DATA_FRAME only the encoder's
position, busy flag and latch, and LINK_OUT (R123, R163). -/
def Obligations.DrainFrame : Prop :=
  ∀ s t : State,
    (exec .take s = .next t →
      t = { s with ready := t.ready, encSlot := t.encSlot, encLen := t.encLen, encPos := t.encPos, encBusy := t.encBusy }) ∧
    (exec .emit s = .next t →
      t = { s with encBusy := t.encBusy, encPos := t.encPos, encHi := t.encHi, linkOut := t.linkOut }) ∧
    (exec .dataFrame s = .next t →
      t = { s with encBusy := t.encBusy, encPos := t.encPos, encHi := t.encHi, linkOut := t.linkOut }) ∧
    (exec .ackLine s = .next t → t = { s with linkOut := t.linkOut })

/-! ## Whole-machine rules -/

/-- Every operation keeps the slot memory's canonical form. -/
def Obligations.MemoryStaysCanonical : Prop :=
  ∀ (s t : State) (i : Instr), exec i s = .next t → Memory.wf s.slots → Memory.wf t.slots

/-- No step changes a build-time parameter (R6, R7, R8). -/
def Obligations.ParametersAreFixed : Prop := ∀ s t : State, step s = .next t → t.params = s.params

/-- R58: LINK_OUT only grows. -/
def Obligations.LinkOutOnlyGrows : Prop := ∀ s t : State, step s = .next t → s.linkOut <+: t.linkOut

/-- Every step keeps the invariant, from every state that meets it (R61). -/
def Obligations.StepKeepsInvariant : Prop := ∀ s t : State, Inv s → step s = .next t → Inv t

/-- R61: every state reachable from power-on, under any schedule, meets its six clauses. -/
def Obligations.ReachableStatesMeetR61 : Prop := ∀ s : State, Reachable s → MeetsR61 s

/-- The states X1 and X2 of 93_implementation_defined.md are never reached: no step from a state that meets the invariant faults
(R72, R121, R127, R144). -/
def Obligations.StepNeverFaults : Prop := ∀ (s : State) (r : Fault), Inv s → step s ≠ .fault r

/-- Every step keeps a frame that is being sent unmixed while OVR stays 0 (R121, R125). -/
def Obligations.StepKeepsFrameUnmixed : Prop :=
  ∀ s t : State, Inv s → Unmixed s → step s = .next t → Unmixed t

/-- R126 as it is written: while no overrun has occurred, a busy encoder's slot is never the active one. Expected to FAIL: the swap
of a second frame makes the slot being sent active before any word of it is overwritten (log 20). -/
def Obligations.BusySlotNeverActiveWithoutOverrun : Prop :=
  ∀ s t : State, Inv s → (s.encBusy = true → s.encSlot ≠ s.active) → step s = .next t → s.ovr = false → t.ovr = false →
    (t.encBusy = true → t.encSlot ≠ t.active)

/-- R126 as R121 and R123 make it (log 20): the slot being sent becomes the active one only by a swap after a full frame while the
encoder is busy, and in no other way. -/
def Obligations.SlotExclusivityEndsOnlyAtASwap : Prop :=
  ∀ s t : State, Inv s → (s.encBusy = true → s.encSlot ≠ s.active) → step s = .next t →
    t.encBusy = true → t.encSlot = t.active →
    s.encBusy = true ∧ s.phase = .acquiring ∧ s.cursor + s.params.channels = s.osize ∧
      t.encSlot = s.encSlot ∧ t.active = s.active.other ∧ t.ready = true ∧ t.cursor = 0

/-- R222's second sentence: the step of a successful CONFIGURE adds to the stream its ack line, of the EPOCH, FREQ and OSIZE it
leaves, and nothing else; so the next segment begins with it (R193, R220). -/
def Obligations.AckIsFirstAfterConfiguration : Prop :=
  ∀ (s t : State) (b : Byte), step s = .next t → incoming s = some b → completesPayload b s = true → t.phase = .acquiring →
    t.linkOut = s.linkOut ++ ackLineBytes s.params t.epoch.toNat t.freq.toNat t.osize

/-- The stream is empty after power-on, which the grammar of R222 allows. -/
def Obligations.PowerOnMeetsLinkGrammar : Prop :=
  ∀ (p : Params) (es : List Event), LinkGrammar { State.powerOn p with sched := es }

/-- R222: every step keeps the device→host stream a sequence of acks, complete frames and frames cut short, the frames of the
length that the ack before them states. -/
def Obligations.StepKeepsLinkGrammar : Prop :=
  ∀ s t : State, Inv s → LinkGrammar s → step s = .next t → LinkGrammar t

/-- R222's first sentence, of every reachable state, under any schedule. -/
def Obligations.ReachableStreamMeetsR222 : Prop := ∀ s : State, Reachable s → LinkGrammar s

/-- R33, R53, R272: what is unspecified at power-on, or kept by RESET, is never observed: two states that differ in it make the
same steps, with the same link bytes and status, and again differ in it alone. -/
def Obligations.UnspecifiedContentsAreUnobservable : Prop :=
  ∀ s t s' : State, Inv s → Indist s t → step s = .next s' → ∃ t', step t = .next t' ∧ Indist s' t' ∧ observe s' = observe t'

/-- R124, R97: from an empty pipeline, one tick for each group of a frame, then TAKE and one EMIT a byte, put exactly the ticked
samples on the link, in channel-interleaved order, and no overrun is noted. -/
def Obligations.TickedSamplesReachTheLink : Prop :=
  ∀ (s : State) (gs : List (List Word × Time)), Inv s → s.phase = .acquiring → s.cursor = 0 → s.ready = false →
    s.encBusy = false → (∀ g ∈ gs, g.1.length = s.params.channels) → gs.length * s.params.channels = s.osize →
    ∃ t, runEvents (gs.map (fun g => Event.tick g.1 g.2) ++ Event.take :: List.replicate (4 + 2 * s.osize) Event.emit) s
        = .next t ∧
      t.linkOut = s.linkOut ++ frameBytes (gs.flatMap Prod.fst) ∧ t.ovr = s.ovr ∧ t.ready = false ∧ t.encBusy = false ∧
      t.cursor = 0 ∧ t.active = s.active.other

/-! ## Clock cycles -/

/-- R143 and R144: while acquiring and with no other event, TMR_CNT counts the cycles up to PERIOD - 1 and nothing else changes,
and the cycle in which it wraps performs TICK. In every phase, the cycle whose byte completes a payload is RX_BYTE alone, so its
CONFIGURE leaves TMR_CNT at 0 and the first TICK is one full period away: that this cycle does not count, whatever CONFIGURE
answers, is DEDUCED (log 10). -/
def Obligations.TimerTicksEveryPeriod : Prop :=
  ∀ (s : State) (c : CycleInputs),
    (c.rx = none → c.takes = false → c.txReady = false → s.txReady = false → s.timeNow = c.time → s.phase = .acquiring →
      (∀ n, s.tmrCnt + n < timerPeriod s.params s.freq.toNat →
        runEvents (List.replicate n (.cycle c)) s = .next { s with sched := [], tmrCnt := s.tmrCnt + n }) ∧
      (s.tmrCnt + 1 = timerPeriod s.params s.freq.toNat →
        clockCycle c s = exec (.tick c.samples c.time) { s with tmrCnt := 0 })) ∧
    (∀ b, c.rx = some b → completesPayload b s = true →
      ∃ t, clockCycle c s = .next t ∧ exec (.rxByte b) { s with timeNow := c.time, txReady := c.txReady } = .next t ∧
        t.tmrCnt = 0)

/-- R248: a clock cycle is a run of at most one RX_BYTE, one TICK, one TAKE and one EMIT, in this order, up to what only the clock
writes: every timed behaviour is one of the untimed model. -/
def Obligations.ClockCycleRefinesEvents : Prop :=
  ∀ (s t : State) (c : CycleInputs), clockCycle c s = .next t →
    ∃ (es : List Event) (u : State),
      es.Sublist ([Event.now c.time] ++ c.rx.toList.map Event.rx ++ [Event.tick c.samples c.time, Event.take, Event.emit]) ∧
      runEvents es s = .next u ∧ untimed u = untimed t

/-- R248: RESET in the cycle of a TICK wins: the cycle is RESET alone. -/
def Obligations.ResetWinsItsCycle : Prop :=
  ∀ (s : State) (c : CycleInputs), c.rx = some 0x52#8 →
    clockCycle c s = exec .reset { s with timeNow := c.time, txReady := c.txReady }
end

