-- ==== Sys2Proof/Laws/Decode.lean ====
section
/-! SUPPORT. The laws of the decimal digits: what a digit byte is worth, how large a digit string can be, what a successful parse
is bounded by (R93, R94, R212). -/

namespace Sys2Proof

/-- `'0'` to `'9'` are worth 0 to 9 (R93). -/
theorem digit_bound {b : Byte} (h : isDigit b = true) : 0x30 ≤ b.toNat ∧ b.toNat - 0x30 ≤ 9 := by
  simp [isDigit] at h; omega

/-- The byte of a digit is a digit and has its value (R218). -/
theorem digitByte_value (d : Nat) (h : d < 10) : isDigit (digitByte d) = true ∧ (digitByte d).toNat = 0x30 + d := by
  revert h; revert d; decide

/-- `n` digits are worth less than `10 ^ n` (R94). -/
theorem decValue_lt (l : List Byte) (h : l.all isDigit = true) : decValue l < 10 ^ l.length := by
  induction l with
  | nil => simp [decValue]
  | cons d ds ih =>
    simp only [List.all_cons, Bool.and_eq_true] at h
    have hd := digit_bound h.1
    have hs := ih h.2
    simp only [decValue, List.length_cons, pow_succ]
    have : (d.toNat - 48) * 10 ^ ds.length ≤ 9 * 10 ^ ds.length := Nat.mul_le_mul_right _ (by omega)
    omega

/-- A successful parse has an epoch of at most 10 digits and a frequency of at most 3. -/
theorem parse_bounds {p : Vector Byte 14} {e : BitVec 64} {f : BitVec 10} (h : parse p = .ok e f) :
    e.toNat ≤ 9999999999 ∧ f.toNat ≤ 999 := by
  unfold parse at h
  split at h
  · rename_i hw
    simp only [payloadWf, Bool.and_eq_true] at hw
    have h1 := decValue_lt _ hw.1.1
    have h2 := decValue_lt _ hw.2
    simp at h1 h2
    cases h
    simp only [BitVec.toNat_ofNat]
    exact ⟨(Nat.mod_le _ _).trans (by omega), (Nat.mod_le _ _).trans (by omega)⟩
  · cases h

theorem all_fixedDigits (k n : Nat) : (fixedDigits k n).all isDigit = true := by
  induction k with
  | zero => rfl
  | succ k ih =>
    simp only [fixedDigits, List.all_cons, ih, Bool.and_true]
    exact (digitByte_value _ (Nat.mod_lt _ (by omega))).1

/-- The `k` fixed digits of `n` are worth `n` modulo `10 ^ k` (R94, R95). -/
theorem decValue_fixedDigits (k n : Nat) : decValue (fixedDigits k n) = n % 10 ^ k := by
  induction k with
  | zero => simp [fixedDigits, decValue, Nat.mod_one]
  | succ k ih =>
    have h := (digitByte_value (n / 10 ^ k % 10) (Nat.mod_lt _ (by omega))).2
    simp only [fixedDigits, decValue, ih, length_fixedDigits, h]
    rw [Nat.pow_succ, Nat.mod_mul]
    simp only [Nat.add_sub_cancel_left]
    ring

end Sys2Proof
end

