-- ==== Sys2Proof/Laws/Memory.lean ====
section
/-! SUPPORT. The laws of the slot memory: reading after writing, and the canonical form. -/

namespace Sys2Proof.Machine

/-! ## Bytes -/

theorem listed_writeByte (m : Memory) (a : Nat) (v : Byte) (b : Nat) :
    Memory.listed (Memory.writeByte m a v) b = if b = a then some v else Memory.listed m b := by
  induction m with
  | nil =>
    rcases eq_or_ne b a with rfl | h
    · simp [Memory.writeByte, Memory.listed]
    · simp [Memory.writeByte, Memory.listed, h, h.symm]
  | cons c rest ih =>
    obtain ⟨k, w⟩ := c
    rcases Nat.lt_trichotomy a k with h | h | h
    · by_cases hb : b = a
      · simp [Memory.writeByte, Memory.listed, h, hb]
      · simp [Memory.writeByte, Memory.listed, h, hb, Ne.symm hb]
    · subst h
      by_cases hb : b = a
      · simp [Memory.writeByte, Memory.listed, hb]
      · simp [Memory.writeByte, Memory.listed, hb, Ne.symm hb]
    · have h1 : ¬ a < k := by omega
      have h2 : ¬ a = k := by omega
      simp only [Memory.writeByte, if_neg h1, if_neg h2, Memory.listed, ih]
      by_cases hb : k = b
      · have : ¬ b = a := by omega
        simp [hb, this]
      · simp [hb]

@[simp] theorem readByte_writeByte_same (m : Memory) (a : Nat) (v : Byte) :
    Memory.readByte (Memory.writeByte m a v) a = v := by
  simp [Memory.readByte, listed_writeByte]

theorem readByte_writeByte_other (m : Memory) (a : Nat) (v : Byte) (b : Nat) (h : b ≠ a) :
    Memory.readByte (Memory.writeByte m a v) b = Memory.readByte m b := by
  simp [Memory.readByte, listed_writeByte, h]

theorem mem_writeByte {m : Memory} {a : Nat} {v : Byte} {c : Host.Cell} (h : c ∈ Memory.writeByte m a v) :
    c = (a, v) ∨ c ∈ m := by
  induction m with
  | nil => simpa [Memory.writeByte] using h
  | cons d rest ih =>
    obtain ⟨k, w⟩ := d
    simp only [Memory.writeByte] at h
    split at h
    · simpa using h
    · split at h
      · simp only [List.mem_cons] at h ⊢; tauto
      · simp only [List.mem_cons] at h ⊢; tauto

theorem wf_writeByte {m : Memory} (a : Nat) (v : Byte) (h : Memory.wf m) : Memory.wf (Memory.writeByte m a v) := by
  induction m with
  | nil => simp [Memory.writeByte, Memory.wf]
  | cons d rest ih =>
    obtain ⟨k, w⟩ := d
    obtain ⟨hk, hr⟩ := List.pairwise_cons.1 h
    simp only [Memory.writeByte]
    split
    · rename_i hlt
      refine List.pairwise_cons.2 ⟨fun c hc => ?_, h⟩
      rcases List.mem_cons.1 hc with rfl | hc
      · exact hlt
      · exact Nat.lt_trans hlt (hk c hc)
    · split
      · rename_i _ heq
        subst heq
        exact List.pairwise_cons.2 ⟨hk, hr⟩
      · rename_i hlt hne
        refine List.pairwise_cons.2 ⟨fun c hc => ?_, ih hr⟩
        rcases mem_writeByte hc with rfl | hc
        · simp only; omega
        · exact hk c hc

/-! ## Words -/

@[simp] theorem other_other (k : Slot) : k.other.other = k := by cases k <;> rfl

theorem other_ne (k : Slot) : k.other ≠ k := by cases k <;> decide

theorem eq_other_of_ne {k j : Slot} (h : k ≠ j) : k = j.other := by cases k <;> cases j <;> simp_all [Slot.other]

theorem index_le (k : Slot) : k.index ≤ 1 := by cases k <;> decide

/-- Two words of the slots have different addresses (R71). -/
theorem slotAddr_inj {p : Params} {k k' : Slot} {i j : Nat} (hi : i < p.bufferSize) (hj : j < p.bufferSize)
    (h : slotAddr p k i = slotAddr p k' j) : k = k' ∧ i = j := by
  cases k <;> cases k' <;> simp [slotAddr, Slot.index] at h ⊢ <;> omega

theorem slotAddr_lt {p : Params} (k : Slot) {i : Nat} (hi : i < p.bufferSize) :
    slotAddr p k i + 1 < 4 * p.bufferSize := by
  cases k <;> simp [slotAddr, Slot.index] <;> omega

theorem slotAddr_even (p : Params) (k : Slot) (i : Nat) : slotAddr p k i % 2 = 0 := by simp [slotAddr]

@[simp] theorem high_append_low (v : Word) : (highByte v ++ lowByte v : Word) = v := by
  simp only [highByte, lowByte]
  ext i hi
  simp only [BitVec.getElem_append, BitVec.getElem_extractLsb']
  by_cases h : i < 8
  · simp [h, BitVec.getLsbD_eq_getElem hi]
  · simp only [h, ↓reduceDIte]
    rw [show 8 + (i - 8) = i by omega, BitVec.getLsbD_eq_getElem hi]

@[simp] theorem low_of_append (hi lo : Byte) : lowByte (hi ++ lo : Word) = lo := by
  apply BitVec.eq_of_toNat_eq
  have h := lo.isLt
  simp only [lowByte, BitVec.extractLsb'_toNat, BitVec.toNat_append, Nat.shiftRight_zero]
  rw [← Nat.shiftLeft_add_eq_or_of_lt h, Nat.shiftLeft_eq]
  omega

@[simp] theorem high_of_append (hi lo : Byte) : highByte (hi ++ lo : Word) = hi := by
  apply BitVec.eq_of_toNat_eq
  have h := lo.isLt
  have h' := hi.isLt
  simp only [highByte, BitVec.extractLsb'_toNat, BitVec.toNat_append]
  rw [← Nat.shiftLeft_add_eq_or_of_lt h, Nat.shiftLeft_eq, Nat.shiftRight_eq_div_pow]
  omega

theorem readByte_storeWord_other (p : Params) (m : Memory) (k : Slot) (i : Nat) (v : Word) (a : Nat)
    (h : a ≠ slotAddr p k i ∧ a ≠ slotAddr p k i + 1) :
    Memory.readByte (storeWord p m k i v) a = Memory.readByte m a := by
  rw [storeWord, readByte_writeByte_other _ _ _ _ h.2, readByte_writeByte_other _ _ _ _ h.1]

theorem wf_storeWord {m : Memory} (p : Params) (k : Slot) (i : Nat) (v : Word) (h : Memory.wf m) :
    Memory.wf (storeWord p m k i v) := wf_writeByte _ _ (wf_writeByte _ _ h)

theorem range_storeWord {p : Params} {m : Memory} (k : Slot) {i : Nat} (v : Word) (hi : i < p.bufferSize)
    (h : ∀ c ∈ m, c.1 < 4 * p.bufferSize) : ∀ c ∈ storeWord p m k i v, c.1 < 4 * p.bufferSize := by
  intro c hc
  have := slotAddr_lt k hi
  rcases mem_writeByte hc with rfl | hc
  · exact this
  · rcases mem_writeByte hc with rfl | hc
    · simp only; omega
    · exact h c hc

/-- `SLOT[k][i]` after `SLOT[k][i] <- v` (R72). -/
theorem slotWord_store_same (s : State) (k : Slot) (i : Nat) (v : Word) :
    slotWord { s with slots := storeWord s.params s.slots k i v } k i = v := by
  simp only [slotWord, storeWord, readByte_writeByte_same]
  rw [readByte_writeByte_other _ _ _ _ (by omega), readByte_writeByte_same]
  exact high_append_low v

/-- Any word at another address after a SlotWrite (R72). -/
theorem slotWord_store_other (s : State) (k k' : Slot) (i j : Nat) (v : Word)
    (h : slotAddr s.params k' j ≠ slotAddr s.params k i) :
    slotWord { s with slots := storeWord s.params s.slots k i v } k' j = slotWord s k' j := by
  have e1 := slotAddr_even s.params k i
  have e2 := slotAddr_even s.params k' j
  simp only [slotWord]
  rw [readByte_storeWord_other _ _ _ _ _ _ (by omega), readByte_storeWord_other _ _ _ _ _ _ (by omega)]

/-- The words of a state depend on its memory and its capacity alone. -/
theorem slotWord_congr {s t : State} (hp : s.params = t.params) (hm : s.slots = t.slots) (k : Slot) (i : Nat) :
    slotWord s k i = slotWord t k i := by simp [slotWord, hp, hm]

end Sys2Proof.Machine
end

