-- ==== Sys2Proof/Laws/State.lean ====
section
/-! SUPPORT. One lemma a field for each named update of the state: what it writes and what it leaves. No later
proof unfolds a record update. -/

namespace Sys2Proof.Machine

/-! ## linkSend -/

@[simp] theorem linkSend_params (bs : List Byte) (s : State) : (linkSend bs s).params = s.params := rfl
@[simp] theorem linkSend_slots (bs : List Byte) (s : State) : (linkSend bs s).slots = s.slots := rfl
@[simp] theorem linkSend_active (bs : List Byte) (s : State) : (linkSend bs s).active = s.active := rfl
@[simp] theorem linkSend_cursor (bs : List Byte) (s : State) : (linkSend bs s).cursor = s.cursor := rfl
@[simp] theorem linkSend_ready (bs : List Byte) (s : State) : (linkSend bs s).ready = s.ready := rfl
@[simp] theorem linkSend_osize (bs : List Byte) (s : State) : (linkSend bs s).osize = s.osize := rfl
@[simp] theorem linkSend_phase (bs : List Byte) (s : State) : (linkSend bs s).phase = s.phase := rfl
@[simp] theorem linkSend_epoch (bs : List Byte) (s : State) : (linkSend bs s).epoch = s.epoch := rfl
@[simp] theorem linkSend_freq (bs : List Byte) (s : State) : (linkSend bs s).freq = s.freq := rfl
@[simp] theorem linkSend_fatal (bs : List Byte) (s : State) : (linkSend bs s).fatal = s.fatal := rfl
@[simp] theorem linkSend_perr (bs : List Byte) (s : State) : (linkSend bs s).perr = s.perr := rfl
@[simp] theorem linkSend_ovr (bs : List Byte) (s : State) : (linkSend bs s).ovr = s.ovr := rfl
@[simp] theorem linkSend_tmrCnt (bs : List Byte) (s : State) : (linkSend bs s).tmrCnt = s.tmrCnt := rfl
@[simp] theorem linkSend_ts (bs : List Byte) (s : State) : (linkSend bs s).ts = s.ts := rfl
@[simp] theorem linkSend_tprev (bs : List Byte) (s : State) : (linkSend bs s).tprev = s.tprev := rfl
@[simp] theorem linkSend_encBusy (bs : List Byte) (s : State) : (linkSend bs s).encBusy = s.encBusy := rfl
@[simp] theorem linkSend_encSlot (bs : List Byte) (s : State) : (linkSend bs s).encSlot = s.encSlot := rfl
@[simp] theorem linkSend_encLen (bs : List Byte) (s : State) : (linkSend bs s).encLen = s.encLen := rfl
@[simp] theorem linkSend_encPos (bs : List Byte) (s : State) : (linkSend bs s).encPos = s.encPos := rfl
@[simp] theorem linkSend_encHi (bs : List Byte) (s : State) : (linkSend bs s).encHi = s.encHi := rfl
@[simp] theorem linkSend_rxMode (bs : List Byte) (s : State) : (linkSend bs s).rxMode = s.rxMode := rfl
@[simp] theorem linkSend_rxCnt (bs : List Byte) (s : State) : (linkSend bs s).rxCnt = s.rxCnt := rfl
@[simp] theorem linkSend_rxBuf (bs : List Byte) (s : State) : (linkSend bs s).rxBuf = s.rxBuf := rfl
@[simp] theorem linkSend_linkOut (bs : List Byte) (s : State) : (linkSend bs s).linkOut = s.linkOut ++ bs := rfl
@[simp] theorem linkSend_timeNow (bs : List Byte) (s : State) : (linkSend bs s).timeNow = s.timeNow := rfl
@[simp] theorem linkSend_txReady (bs : List Byte) (s : State) : (linkSend bs s).txReady = s.txReady := rfl
@[simp] theorem linkSend_sched (bs : List Byte) (s : State) : (linkSend bs s).sched = s.sched := rfl
@[simp] theorem linkSend_draws (bs : List Byte) (s : State) : (linkSend bs s).draws = s.draws := rfl

/-! ## recordError -/

@[simp] theorem recordError_params (e : ErrorCode) (s : State) : (recordError e s).params = s.params := rfl
@[simp] theorem recordError_slots (e : ErrorCode) (s : State) : (recordError e s).slots = s.slots := rfl
@[simp] theorem recordError_active (e : ErrorCode) (s : State) : (recordError e s).active = s.active := rfl
@[simp] theorem recordError_cursor (e : ErrorCode) (s : State) : (recordError e s).cursor = s.cursor := rfl
@[simp] theorem recordError_ready (e : ErrorCode) (s : State) : (recordError e s).ready = s.ready := rfl
@[simp] theorem recordError_osize (e : ErrorCode) (s : State) : (recordError e s).osize = s.osize := rfl
@[simp] theorem recordError_phase (e : ErrorCode) (s : State) : (recordError e s).phase = s.phase := rfl
@[simp] theorem recordError_epoch (e : ErrorCode) (s : State) : (recordError e s).epoch = s.epoch := rfl
@[simp] theorem recordError_freq (e : ErrorCode) (s : State) : (recordError e s).freq = s.freq := rfl
@[simp] theorem recordError_fatal (e : ErrorCode) (s : State) : (recordError e s).fatal = (s.fatal || e.setsFatal) := rfl
@[simp] theorem recordError_perr (e : ErrorCode) (s : State) : (recordError e s).perr = (s.perr || e.setsPerr) := rfl
@[simp] theorem recordError_ovr (e : ErrorCode) (s : State) : (recordError e s).ovr = (s.ovr || e.setsOvr) := rfl
@[simp] theorem recordError_tmrCnt (e : ErrorCode) (s : State) : (recordError e s).tmrCnt = s.tmrCnt := rfl
@[simp] theorem recordError_ts (e : ErrorCode) (s : State) : (recordError e s).ts = s.ts := rfl
@[simp] theorem recordError_tprev (e : ErrorCode) (s : State) : (recordError e s).tprev = s.tprev := rfl
@[simp] theorem recordError_encBusy (e : ErrorCode) (s : State) : (recordError e s).encBusy = s.encBusy := rfl
@[simp] theorem recordError_encSlot (e : ErrorCode) (s : State) : (recordError e s).encSlot = s.encSlot := rfl
@[simp] theorem recordError_encLen (e : ErrorCode) (s : State) : (recordError e s).encLen = s.encLen := rfl
@[simp] theorem recordError_encPos (e : ErrorCode) (s : State) : (recordError e s).encPos = s.encPos := rfl
@[simp] theorem recordError_encHi (e : ErrorCode) (s : State) : (recordError e s).encHi = s.encHi := rfl
@[simp] theorem recordError_rxMode (e : ErrorCode) (s : State) : (recordError e s).rxMode = s.rxMode := rfl
@[simp] theorem recordError_rxCnt (e : ErrorCode) (s : State) : (recordError e s).rxCnt = s.rxCnt := rfl
@[simp] theorem recordError_rxBuf (e : ErrorCode) (s : State) : (recordError e s).rxBuf = s.rxBuf := rfl
@[simp] theorem recordError_linkOut (e : ErrorCode) (s : State) : (recordError e s).linkOut = s.linkOut := rfl
@[simp] theorem recordError_timeNow (e : ErrorCode) (s : State) : (recordError e s).timeNow = s.timeNow := rfl
@[simp] theorem recordError_txReady (e : ErrorCode) (s : State) : (recordError e s).txReady = s.txReady := rfl
@[simp] theorem recordError_sched (e : ErrorCode) (s : State) : (recordError e s).sched = s.sched := rfl
@[simp] theorem recordError_draws (e : ErrorCode) (s : State) : (recordError e s).draws = s.draws := rfl

/-! ## clearFlags -/

@[simp] theorem clearFlags_params (s : State) : (clearFlags s).params = s.params := rfl
@[simp] theorem clearFlags_slots (s : State) : (clearFlags s).slots = s.slots := rfl
@[simp] theorem clearFlags_active (s : State) : (clearFlags s).active = s.active := rfl
@[simp] theorem clearFlags_cursor (s : State) : (clearFlags s).cursor = s.cursor := rfl
@[simp] theorem clearFlags_ready (s : State) : (clearFlags s).ready = s.ready := rfl
@[simp] theorem clearFlags_osize (s : State) : (clearFlags s).osize = s.osize := rfl
@[simp] theorem clearFlags_phase (s : State) : (clearFlags s).phase = s.phase := rfl
@[simp] theorem clearFlags_epoch (s : State) : (clearFlags s).epoch = s.epoch := rfl
@[simp] theorem clearFlags_freq (s : State) : (clearFlags s).freq = s.freq := rfl
@[simp] theorem clearFlags_fatal (s : State) : (clearFlags s).fatal = false := rfl
@[simp] theorem clearFlags_perr (s : State) : (clearFlags s).perr = false := rfl
@[simp] theorem clearFlags_ovr (s : State) : (clearFlags s).ovr = false := rfl
@[simp] theorem clearFlags_tmrCnt (s : State) : (clearFlags s).tmrCnt = s.tmrCnt := rfl
@[simp] theorem clearFlags_ts (s : State) : (clearFlags s).ts = s.ts := rfl
@[simp] theorem clearFlags_tprev (s : State) : (clearFlags s).tprev = s.tprev := rfl
@[simp] theorem clearFlags_encBusy (s : State) : (clearFlags s).encBusy = s.encBusy := rfl
@[simp] theorem clearFlags_encSlot (s : State) : (clearFlags s).encSlot = s.encSlot := rfl
@[simp] theorem clearFlags_encLen (s : State) : (clearFlags s).encLen = s.encLen := rfl
@[simp] theorem clearFlags_encPos (s : State) : (clearFlags s).encPos = s.encPos := rfl
@[simp] theorem clearFlags_encHi (s : State) : (clearFlags s).encHi = s.encHi := rfl
@[simp] theorem clearFlags_rxMode (s : State) : (clearFlags s).rxMode = s.rxMode := rfl
@[simp] theorem clearFlags_rxCnt (s : State) : (clearFlags s).rxCnt = s.rxCnt := rfl
@[simp] theorem clearFlags_rxBuf (s : State) : (clearFlags s).rxBuf = s.rxBuf := rfl
@[simp] theorem clearFlags_linkOut (s : State) : (clearFlags s).linkOut = s.linkOut := rfl
@[simp] theorem clearFlags_timeNow (s : State) : (clearFlags s).timeNow = s.timeNow := rfl
@[simp] theorem clearFlags_txReady (s : State) : (clearFlags s).txReady = s.txReady := rfl
@[simp] theorem clearFlags_sched (s : State) : (clearFlags s).sched = s.sched := rfl
@[simp] theorem clearFlags_draws (s : State) : (clearFlags s).draws = s.draws := rfl

/-! ## pipelineClear -/

@[simp] theorem pipelineClear_params (s : State) : (pipelineClear s).params = s.params := rfl
@[simp] theorem pipelineClear_slots (s : State) : (pipelineClear s).slots = s.slots := rfl
@[simp] theorem pipelineClear_active (s : State) : (pipelineClear s).active = .zero := rfl
@[simp] theorem pipelineClear_cursor (s : State) : (pipelineClear s).cursor = 0 := rfl
@[simp] theorem pipelineClear_ready (s : State) : (pipelineClear s).ready = false := rfl
@[simp] theorem pipelineClear_osize (s : State) : (pipelineClear s).osize = 0 := rfl
@[simp] theorem pipelineClear_phase (s : State) : (pipelineClear s).phase = .idle := rfl
@[simp] theorem pipelineClear_epoch (s : State) : (pipelineClear s).epoch = s.epoch := rfl
@[simp] theorem pipelineClear_freq (s : State) : (pipelineClear s).freq = s.freq := rfl
@[simp] theorem pipelineClear_fatal (s : State) : (pipelineClear s).fatal = s.fatal := rfl
@[simp] theorem pipelineClear_perr (s : State) : (pipelineClear s).perr = s.perr := rfl
@[simp] theorem pipelineClear_ovr (s : State) : (pipelineClear s).ovr = s.ovr := rfl
@[simp] theorem pipelineClear_tmrCnt (s : State) : (pipelineClear s).tmrCnt = 0 := rfl
@[simp] theorem pipelineClear_ts (s : State) : (pipelineClear s).ts = s.ts := rfl
@[simp] theorem pipelineClear_tprev (s : State) : (pipelineClear s).tprev = s.tprev := rfl
@[simp] theorem pipelineClear_encBusy (s : State) : (pipelineClear s).encBusy = false := rfl
@[simp] theorem pipelineClear_encSlot (s : State) : (pipelineClear s).encSlot = s.encSlot := rfl
@[simp] theorem pipelineClear_encLen (s : State) : (pipelineClear s).encLen = s.encLen := rfl
@[simp] theorem pipelineClear_encPos (s : State) : (pipelineClear s).encPos = 0 := rfl
@[simp] theorem pipelineClear_encHi (s : State) : (pipelineClear s).encHi = s.encHi := rfl
@[simp] theorem pipelineClear_rxMode (s : State) : (pipelineClear s).rxMode = s.rxMode := rfl
@[simp] theorem pipelineClear_rxCnt (s : State) : (pipelineClear s).rxCnt = s.rxCnt := rfl
@[simp] theorem pipelineClear_rxBuf (s : State) : (pipelineClear s).rxBuf = s.rxBuf := rfl
@[simp] theorem pipelineClear_linkOut (s : State) : (pipelineClear s).linkOut = s.linkOut := rfl
@[simp] theorem pipelineClear_timeNow (s : State) : (pipelineClear s).timeNow = s.timeNow := rfl
@[simp] theorem pipelineClear_txReady (s : State) : (pipelineClear s).txReady = s.txReady := rfl
@[simp] theorem pipelineClear_sched (s : State) : (pipelineClear s).sched = s.sched := rfl
@[simp] theorem pipelineClear_draws (s : State) : (pipelineClear s).draws = s.draws := rfl

/-! ## receiverToCmd -/

@[simp] theorem receiverToCmd_params (s : State) : (receiverToCmd s).params = s.params := rfl
@[simp] theorem receiverToCmd_slots (s : State) : (receiverToCmd s).slots = s.slots := rfl
@[simp] theorem receiverToCmd_active (s : State) : (receiverToCmd s).active = s.active := rfl
@[simp] theorem receiverToCmd_cursor (s : State) : (receiverToCmd s).cursor = s.cursor := rfl
@[simp] theorem receiverToCmd_ready (s : State) : (receiverToCmd s).ready = s.ready := rfl
@[simp] theorem receiverToCmd_osize (s : State) : (receiverToCmd s).osize = s.osize := rfl
@[simp] theorem receiverToCmd_phase (s : State) : (receiverToCmd s).phase = s.phase := rfl
@[simp] theorem receiverToCmd_epoch (s : State) : (receiverToCmd s).epoch = s.epoch := rfl
@[simp] theorem receiverToCmd_freq (s : State) : (receiverToCmd s).freq = s.freq := rfl
@[simp] theorem receiverToCmd_fatal (s : State) : (receiverToCmd s).fatal = s.fatal := rfl
@[simp] theorem receiverToCmd_perr (s : State) : (receiverToCmd s).perr = s.perr := rfl
@[simp] theorem receiverToCmd_ovr (s : State) : (receiverToCmd s).ovr = s.ovr := rfl
@[simp] theorem receiverToCmd_tmrCnt (s : State) : (receiverToCmd s).tmrCnt = s.tmrCnt := rfl
@[simp] theorem receiverToCmd_ts (s : State) : (receiverToCmd s).ts = s.ts := rfl
@[simp] theorem receiverToCmd_tprev (s : State) : (receiverToCmd s).tprev = s.tprev := rfl
@[simp] theorem receiverToCmd_encBusy (s : State) : (receiverToCmd s).encBusy = s.encBusy := rfl
@[simp] theorem receiverToCmd_encSlot (s : State) : (receiverToCmd s).encSlot = s.encSlot := rfl
@[simp] theorem receiverToCmd_encLen (s : State) : (receiverToCmd s).encLen = s.encLen := rfl
@[simp] theorem receiverToCmd_encPos (s : State) : (receiverToCmd s).encPos = s.encPos := rfl
@[simp] theorem receiverToCmd_encHi (s : State) : (receiverToCmd s).encHi = s.encHi := rfl
@[simp] theorem receiverToCmd_rxMode (s : State) : (receiverToCmd s).rxMode = .cmd := rfl
@[simp] theorem receiverToCmd_rxCnt (s : State) : (receiverToCmd s).rxCnt = 0 := rfl
@[simp] theorem receiverToCmd_rxBuf (s : State) : (receiverToCmd s).rxBuf = s.rxBuf := rfl
@[simp] theorem receiverToCmd_linkOut (s : State) : (receiverToCmd s).linkOut = s.linkOut := rfl
@[simp] theorem receiverToCmd_timeNow (s : State) : (receiverToCmd s).timeNow = s.timeNow := rfl
@[simp] theorem receiverToCmd_txReady (s : State) : (receiverToCmd s).txReady = s.txReady := rfl
@[simp] theorem receiverToCmd_sched (s : State) : (receiverToCmd s).sched = s.sched := rfl
@[simp] theorem receiverToCmd_draws (s : State) : (receiverToCmd s).draws = s.draws := rfl

/-! ## startPayload -/

@[simp] theorem startPayload_params (s : State) : (startPayload s).params = s.params := rfl
@[simp] theorem startPayload_slots (s : State) : (startPayload s).slots = s.slots := rfl
@[simp] theorem startPayload_active (s : State) : (startPayload s).active = s.active := rfl
@[simp] theorem startPayload_cursor (s : State) : (startPayload s).cursor = s.cursor := rfl
@[simp] theorem startPayload_ready (s : State) : (startPayload s).ready = s.ready := rfl
@[simp] theorem startPayload_osize (s : State) : (startPayload s).osize = s.osize := rfl
@[simp] theorem startPayload_phase (s : State) : (startPayload s).phase = s.phase := rfl
@[simp] theorem startPayload_epoch (s : State) : (startPayload s).epoch = s.epoch := rfl
@[simp] theorem startPayload_freq (s : State) : (startPayload s).freq = s.freq := rfl
@[simp] theorem startPayload_fatal (s : State) : (startPayload s).fatal = s.fatal := rfl
@[simp] theorem startPayload_perr (s : State) : (startPayload s).perr = s.perr := rfl
@[simp] theorem startPayload_ovr (s : State) : (startPayload s).ovr = s.ovr := rfl
@[simp] theorem startPayload_tmrCnt (s : State) : (startPayload s).tmrCnt = s.tmrCnt := rfl
@[simp] theorem startPayload_ts (s : State) : (startPayload s).ts = s.ts := rfl
@[simp] theorem startPayload_tprev (s : State) : (startPayload s).tprev = s.tprev := rfl
@[simp] theorem startPayload_encBusy (s : State) : (startPayload s).encBusy = s.encBusy := rfl
@[simp] theorem startPayload_encSlot (s : State) : (startPayload s).encSlot = s.encSlot := rfl
@[simp] theorem startPayload_encLen (s : State) : (startPayload s).encLen = s.encLen := rfl
@[simp] theorem startPayload_encPos (s : State) : (startPayload s).encPos = s.encPos := rfl
@[simp] theorem startPayload_encHi (s : State) : (startPayload s).encHi = s.encHi := rfl
@[simp] theorem startPayload_rxMode (s : State) : (startPayload s).rxMode = .payload := rfl
@[simp] theorem startPayload_rxCnt (s : State) : (startPayload s).rxCnt = 0 := rfl
@[simp] theorem startPayload_rxBuf (s : State) : (startPayload s).rxBuf = s.rxBuf := rfl
@[simp] theorem startPayload_linkOut (s : State) : (startPayload s).linkOut = s.linkOut := rfl
@[simp] theorem startPayload_timeNow (s : State) : (startPayload s).timeNow = s.timeNow := rfl
@[simp] theorem startPayload_txReady (s : State) : (startPayload s).txReady = s.txReady := rfl
@[simp] theorem startPayload_sched (s : State) : (startPayload s).sched = s.sched := rfl
@[simp] theorem startPayload_draws (s : State) : (startPayload s).draws = s.draws := rfl

/-! ## storePayload -/

@[simp] theorem storePayload_params (b : Byte) (s : State) : (storePayload b s).params = s.params := rfl
@[simp] theorem storePayload_slots (b : Byte) (s : State) : (storePayload b s).slots = s.slots := rfl
@[simp] theorem storePayload_active (b : Byte) (s : State) : (storePayload b s).active = s.active := rfl
@[simp] theorem storePayload_cursor (b : Byte) (s : State) : (storePayload b s).cursor = s.cursor := rfl
@[simp] theorem storePayload_ready (b : Byte) (s : State) : (storePayload b s).ready = s.ready := rfl
@[simp] theorem storePayload_osize (b : Byte) (s : State) : (storePayload b s).osize = s.osize := rfl
@[simp] theorem storePayload_phase (b : Byte) (s : State) : (storePayload b s).phase = s.phase := rfl
@[simp] theorem storePayload_epoch (b : Byte) (s : State) : (storePayload b s).epoch = s.epoch := rfl
@[simp] theorem storePayload_freq (b : Byte) (s : State) : (storePayload b s).freq = s.freq := rfl
@[simp] theorem storePayload_fatal (b : Byte) (s : State) : (storePayload b s).fatal = s.fatal := rfl
@[simp] theorem storePayload_perr (b : Byte) (s : State) : (storePayload b s).perr = s.perr := rfl
@[simp] theorem storePayload_ovr (b : Byte) (s : State) : (storePayload b s).ovr = s.ovr := rfl
@[simp] theorem storePayload_tmrCnt (b : Byte) (s : State) : (storePayload b s).tmrCnt = s.tmrCnt := rfl
@[simp] theorem storePayload_ts (b : Byte) (s : State) : (storePayload b s).ts = s.ts := rfl
@[simp] theorem storePayload_tprev (b : Byte) (s : State) : (storePayload b s).tprev = s.tprev := rfl
@[simp] theorem storePayload_encBusy (b : Byte) (s : State) : (storePayload b s).encBusy = s.encBusy := rfl
@[simp] theorem storePayload_encSlot (b : Byte) (s : State) : (storePayload b s).encSlot = s.encSlot := rfl
@[simp] theorem storePayload_encLen (b : Byte) (s : State) : (storePayload b s).encLen = s.encLen := rfl
@[simp] theorem storePayload_encPos (b : Byte) (s : State) : (storePayload b s).encPos = s.encPos := rfl
@[simp] theorem storePayload_encHi (b : Byte) (s : State) : (storePayload b s).encHi = s.encHi := rfl
@[simp] theorem storePayload_rxMode (b : Byte) (s : State) : (storePayload b s).rxMode = s.rxMode := rfl
@[simp] theorem storePayload_rxCnt (b : Byte) (s : State) : (storePayload b s).rxCnt = s.rxCnt := rfl
@[simp] theorem storePayload_rxBuf (b : Byte) (s : State) : (storePayload b s).rxBuf = s.rxBuf.set s.rxCnt b := rfl
@[simp] theorem storePayload_linkOut (b : Byte) (s : State) : (storePayload b s).linkOut = s.linkOut := rfl
@[simp] theorem storePayload_timeNow (b : Byte) (s : State) : (storePayload b s).timeNow = s.timeNow := rfl
@[simp] theorem storePayload_txReady (b : Byte) (s : State) : (storePayload b s).txReady = s.txReady := rfl
@[simp] theorem storePayload_sched (b : Byte) (s : State) : (storePayload b s).sched = s.sched := rfl
@[simp] theorem storePayload_draws (b : Byte) (s : State) : (storePayload b s).draws = s.draws := rfl

/-! ## acceptConfig -/

@[simp] theorem acceptConfig_params (e : BitVec 64) (f : BitVec 10) (os : Nat) (s : State) : (acceptConfig e f os s).params = s.params := rfl
@[simp] theorem acceptConfig_slots (e : BitVec 64) (f : BitVec 10) (os : Nat) (s : State) : (acceptConfig e f os s).slots = s.slots := rfl
@[simp] theorem acceptConfig_active (e : BitVec 64) (f : BitVec 10) (os : Nat) (s : State) : (acceptConfig e f os s).active = s.active := rfl
@[simp] theorem acceptConfig_cursor (e : BitVec 64) (f : BitVec 10) (os : Nat) (s : State) : (acceptConfig e f os s).cursor = s.cursor := rfl
@[simp] theorem acceptConfig_ready (e : BitVec 64) (f : BitVec 10) (os : Nat) (s : State) : (acceptConfig e f os s).ready = s.ready := rfl
@[simp] theorem acceptConfig_osize (e : BitVec 64) (f : BitVec 10) (os : Nat) (s : State) : (acceptConfig e f os s).osize = os := rfl
@[simp] theorem acceptConfig_phase (e : BitVec 64) (f : BitVec 10) (os : Nat) (s : State) : (acceptConfig e f os s).phase = s.phase := rfl
@[simp] theorem acceptConfig_epoch (e : BitVec 64) (f : BitVec 10) (os : Nat) (s : State) : (acceptConfig e f os s).epoch = e := rfl
@[simp] theorem acceptConfig_freq (e : BitVec 64) (f : BitVec 10) (os : Nat) (s : State) : (acceptConfig e f os s).freq = f := rfl
@[simp] theorem acceptConfig_fatal (e : BitVec 64) (f : BitVec 10) (os : Nat) (s : State) : (acceptConfig e f os s).fatal = s.fatal := rfl
@[simp] theorem acceptConfig_perr (e : BitVec 64) (f : BitVec 10) (os : Nat) (s : State) : (acceptConfig e f os s).perr = s.perr := rfl
@[simp] theorem acceptConfig_ovr (e : BitVec 64) (f : BitVec 10) (os : Nat) (s : State) : (acceptConfig e f os s).ovr = s.ovr := rfl
@[simp] theorem acceptConfig_tmrCnt (e : BitVec 64) (f : BitVec 10) (os : Nat) (s : State) : (acceptConfig e f os s).tmrCnt = s.tmrCnt := rfl
@[simp] theorem acceptConfig_ts (e : BitVec 64) (f : BitVec 10) (os : Nat) (s : State) : (acceptConfig e f os s).ts = s.ts := rfl
@[simp] theorem acceptConfig_tprev (e : BitVec 64) (f : BitVec 10) (os : Nat) (s : State) : (acceptConfig e f os s).tprev = s.tprev := rfl
@[simp] theorem acceptConfig_encBusy (e : BitVec 64) (f : BitVec 10) (os : Nat) (s : State) : (acceptConfig e f os s).encBusy = s.encBusy := rfl
@[simp] theorem acceptConfig_encSlot (e : BitVec 64) (f : BitVec 10) (os : Nat) (s : State) : (acceptConfig e f os s).encSlot = s.encSlot := rfl
@[simp] theorem acceptConfig_encLen (e : BitVec 64) (f : BitVec 10) (os : Nat) (s : State) : (acceptConfig e f os s).encLen = s.encLen := rfl
@[simp] theorem acceptConfig_encPos (e : BitVec 64) (f : BitVec 10) (os : Nat) (s : State) : (acceptConfig e f os s).encPos = s.encPos := rfl
@[simp] theorem acceptConfig_encHi (e : BitVec 64) (f : BitVec 10) (os : Nat) (s : State) : (acceptConfig e f os s).encHi = s.encHi := rfl
@[simp] theorem acceptConfig_rxMode (e : BitVec 64) (f : BitVec 10) (os : Nat) (s : State) : (acceptConfig e f os s).rxMode = s.rxMode := rfl
@[simp] theorem acceptConfig_rxCnt (e : BitVec 64) (f : BitVec 10) (os : Nat) (s : State) : (acceptConfig e f os s).rxCnt = s.rxCnt := rfl
@[simp] theorem acceptConfig_rxBuf (e : BitVec 64) (f : BitVec 10) (os : Nat) (s : State) : (acceptConfig e f os s).rxBuf = s.rxBuf := rfl
@[simp] theorem acceptConfig_linkOut (e : BitVec 64) (f : BitVec 10) (os : Nat) (s : State) : (acceptConfig e f os s).linkOut = s.linkOut := rfl
@[simp] theorem acceptConfig_timeNow (e : BitVec 64) (f : BitVec 10) (os : Nat) (s : State) : (acceptConfig e f os s).timeNow = s.timeNow := rfl
@[simp] theorem acceptConfig_txReady (e : BitVec 64) (f : BitVec 10) (os : Nat) (s : State) : (acceptConfig e f os s).txReady = s.txReady := rfl
@[simp] theorem acceptConfig_sched (e : BitVec 64) (f : BitVec 10) (os : Nat) (s : State) : (acceptConfig e f os s).sched = s.sched := rfl
@[simp] theorem acceptConfig_draws (e : BitVec 64) (f : BitVec 10) (os : Nat) (s : State) : (acceptConfig e f os s).draws = s.draws := rfl

/-! ## startSampler -/

@[simp] theorem startSampler_params (s : State) : (startSampler s).params = s.params := rfl
@[simp] theorem startSampler_slots (s : State) : (startSampler s).slots = s.slots := rfl
@[simp] theorem startSampler_active (s : State) : (startSampler s).active = s.active := rfl
@[simp] theorem startSampler_cursor (s : State) : (startSampler s).cursor = s.cursor := rfl
@[simp] theorem startSampler_ready (s : State) : (startSampler s).ready = s.ready := rfl
@[simp] theorem startSampler_osize (s : State) : (startSampler s).osize = s.osize := rfl
@[simp] theorem startSampler_phase (s : State) : (startSampler s).phase = .acquiring := rfl
@[simp] theorem startSampler_epoch (s : State) : (startSampler s).epoch = s.epoch := rfl
@[simp] theorem startSampler_freq (s : State) : (startSampler s).freq = s.freq := rfl
@[simp] theorem startSampler_fatal (s : State) : (startSampler s).fatal = s.fatal := rfl
@[simp] theorem startSampler_perr (s : State) : (startSampler s).perr = s.perr := rfl
@[simp] theorem startSampler_ovr (s : State) : (startSampler s).ovr = s.ovr := rfl
@[simp] theorem startSampler_tmrCnt (s : State) : (startSampler s).tmrCnt = 0 := rfl
@[simp] theorem startSampler_ts (s : State) : (startSampler s).ts = 0 := rfl
@[simp] theorem startSampler_tprev (s : State) : (startSampler s).tprev = s.timeNow := rfl
@[simp] theorem startSampler_encBusy (s : State) : (startSampler s).encBusy = s.encBusy := rfl
@[simp] theorem startSampler_encSlot (s : State) : (startSampler s).encSlot = s.encSlot := rfl
@[simp] theorem startSampler_encLen (s : State) : (startSampler s).encLen = s.encLen := rfl
@[simp] theorem startSampler_encPos (s : State) : (startSampler s).encPos = s.encPos := rfl
@[simp] theorem startSampler_encHi (s : State) : (startSampler s).encHi = s.encHi := rfl
@[simp] theorem startSampler_rxMode (s : State) : (startSampler s).rxMode = s.rxMode := rfl
@[simp] theorem startSampler_rxCnt (s : State) : (startSampler s).rxCnt = s.rxCnt := rfl
@[simp] theorem startSampler_rxBuf (s : State) : (startSampler s).rxBuf = s.rxBuf := rfl
@[simp] theorem startSampler_linkOut (s : State) : (startSampler s).linkOut = s.linkOut := rfl
@[simp] theorem startSampler_timeNow (s : State) : (startSampler s).timeNow = s.timeNow := rfl
@[simp] theorem startSampler_txReady (s : State) : (startSampler s).txReady = s.txReady := rfl
@[simp] theorem startSampler_sched (s : State) : (startSampler s).sched = s.sched := rfl
@[simp] theorem startSampler_draws (s : State) : (startSampler s).draws = s.draws := rfl

/-! ## swapSlots -/

@[simp] theorem swapSlots_params (s : State) : (swapSlots s).params = s.params := rfl
@[simp] theorem swapSlots_slots (s : State) : (swapSlots s).slots = s.slots := rfl
@[simp] theorem swapSlots_active (s : State) : (swapSlots s).active = s.active.other := rfl
@[simp] theorem swapSlots_cursor (s : State) : (swapSlots s).cursor = 0 := rfl
@[simp] theorem swapSlots_ready (s : State) : (swapSlots s).ready = true := rfl
@[simp] theorem swapSlots_osize (s : State) : (swapSlots s).osize = s.osize := rfl
@[simp] theorem swapSlots_phase (s : State) : (swapSlots s).phase = s.phase := rfl
@[simp] theorem swapSlots_epoch (s : State) : (swapSlots s).epoch = s.epoch := rfl
@[simp] theorem swapSlots_freq (s : State) : (swapSlots s).freq = s.freq := rfl
@[simp] theorem swapSlots_fatal (s : State) : (swapSlots s).fatal = s.fatal := rfl
@[simp] theorem swapSlots_perr (s : State) : (swapSlots s).perr = s.perr := rfl
@[simp] theorem swapSlots_ovr (s : State) : (swapSlots s).ovr = s.ovr := rfl
@[simp] theorem swapSlots_tmrCnt (s : State) : (swapSlots s).tmrCnt = s.tmrCnt := rfl
@[simp] theorem swapSlots_ts (s : State) : (swapSlots s).ts = s.ts := rfl
@[simp] theorem swapSlots_tprev (s : State) : (swapSlots s).tprev = s.tprev := rfl
@[simp] theorem swapSlots_encBusy (s : State) : (swapSlots s).encBusy = s.encBusy := rfl
@[simp] theorem swapSlots_encSlot (s : State) : (swapSlots s).encSlot = s.encSlot := rfl
@[simp] theorem swapSlots_encLen (s : State) : (swapSlots s).encLen = s.encLen := rfl
@[simp] theorem swapSlots_encPos (s : State) : (swapSlots s).encPos = s.encPos := rfl
@[simp] theorem swapSlots_encHi (s : State) : (swapSlots s).encHi = s.encHi := rfl
@[simp] theorem swapSlots_rxMode (s : State) : (swapSlots s).rxMode = s.rxMode := rfl
@[simp] theorem swapSlots_rxCnt (s : State) : (swapSlots s).rxCnt = s.rxCnt := rfl
@[simp] theorem swapSlots_rxBuf (s : State) : (swapSlots s).rxBuf = s.rxBuf := rfl
@[simp] theorem swapSlots_linkOut (s : State) : (swapSlots s).linkOut = s.linkOut := rfl
@[simp] theorem swapSlots_timeNow (s : State) : (swapSlots s).timeNow = s.timeNow := rfl
@[simp] theorem swapSlots_txReady (s : State) : (swapSlots s).txReady = s.txReady := rfl
@[simp] theorem swapSlots_sched (s : State) : (swapSlots s).sched = s.sched := rfl
@[simp] theorem swapSlots_draws (s : State) : (swapSlots s).draws = s.draws := rfl

/-! ## latchFrame -/

@[simp] theorem latchFrame_params (s : State) : (latchFrame s).params = s.params := rfl
@[simp] theorem latchFrame_slots (s : State) : (latchFrame s).slots = s.slots := rfl
@[simp] theorem latchFrame_active (s : State) : (latchFrame s).active = s.active := rfl
@[simp] theorem latchFrame_cursor (s : State) : (latchFrame s).cursor = s.cursor := rfl
@[simp] theorem latchFrame_ready (s : State) : (latchFrame s).ready = false := rfl
@[simp] theorem latchFrame_osize (s : State) : (latchFrame s).osize = s.osize := rfl
@[simp] theorem latchFrame_phase (s : State) : (latchFrame s).phase = s.phase := rfl
@[simp] theorem latchFrame_epoch (s : State) : (latchFrame s).epoch = s.epoch := rfl
@[simp] theorem latchFrame_freq (s : State) : (latchFrame s).freq = s.freq := rfl
@[simp] theorem latchFrame_fatal (s : State) : (latchFrame s).fatal = s.fatal := rfl
@[simp] theorem latchFrame_perr (s : State) : (latchFrame s).perr = s.perr := rfl
@[simp] theorem latchFrame_ovr (s : State) : (latchFrame s).ovr = s.ovr := rfl
@[simp] theorem latchFrame_tmrCnt (s : State) : (latchFrame s).tmrCnt = s.tmrCnt := rfl
@[simp] theorem latchFrame_ts (s : State) : (latchFrame s).ts = s.ts := rfl
@[simp] theorem latchFrame_tprev (s : State) : (latchFrame s).tprev = s.tprev := rfl
@[simp] theorem latchFrame_encBusy (s : State) : (latchFrame s).encBusy = true := rfl
@[simp] theorem latchFrame_encSlot (s : State) : (latchFrame s).encSlot = s.active.other := rfl
@[simp] theorem latchFrame_encLen (s : State) : (latchFrame s).encLen = s.osize := rfl
@[simp] theorem latchFrame_encPos (s : State) : (latchFrame s).encPos = 0 := rfl
@[simp] theorem latchFrame_encHi (s : State) : (latchFrame s).encHi = s.encHi := rfl
@[simp] theorem latchFrame_rxMode (s : State) : (latchFrame s).rxMode = s.rxMode := rfl
@[simp] theorem latchFrame_rxCnt (s : State) : (latchFrame s).rxCnt = s.rxCnt := rfl
@[simp] theorem latchFrame_rxBuf (s : State) : (latchFrame s).rxBuf = s.rxBuf := rfl
@[simp] theorem latchFrame_linkOut (s : State) : (latchFrame s).linkOut = s.linkOut := rfl
@[simp] theorem latchFrame_timeNow (s : State) : (latchFrame s).timeNow = s.timeNow := rfl
@[simp] theorem latchFrame_txReady (s : State) : (latchFrame s).txReady = s.txReady := rfl
@[simp] theorem latchFrame_sched (s : State) : (latchFrame s).sched = s.sched := rfl
@[simp] theorem latchFrame_draws (s : State) : (latchFrame s).draws = s.draws := rfl

/-! ## sendAck -/

@[simp] theorem sendAck_params (s : State) : (sendAck s).params = s.params := rfl
@[simp] theorem sendAck_slots (s : State) : (sendAck s).slots = s.slots := rfl
@[simp] theorem sendAck_active (s : State) : (sendAck s).active = s.active := rfl
@[simp] theorem sendAck_cursor (s : State) : (sendAck s).cursor = s.cursor := rfl
@[simp] theorem sendAck_ready (s : State) : (sendAck s).ready = s.ready := rfl
@[simp] theorem sendAck_osize (s : State) : (sendAck s).osize = s.osize := rfl
@[simp] theorem sendAck_phase (s : State) : (sendAck s).phase = s.phase := rfl
@[simp] theorem sendAck_epoch (s : State) : (sendAck s).epoch = s.epoch := rfl
@[simp] theorem sendAck_freq (s : State) : (sendAck s).freq = s.freq := rfl
@[simp] theorem sendAck_fatal (s : State) : (sendAck s).fatal = s.fatal := rfl
@[simp] theorem sendAck_perr (s : State) : (sendAck s).perr = s.perr := rfl
@[simp] theorem sendAck_ovr (s : State) : (sendAck s).ovr = s.ovr := rfl
@[simp] theorem sendAck_tmrCnt (s : State) : (sendAck s).tmrCnt = s.tmrCnt := rfl
@[simp] theorem sendAck_ts (s : State) : (sendAck s).ts = s.ts := rfl
@[simp] theorem sendAck_tprev (s : State) : (sendAck s).tprev = s.tprev := rfl
@[simp] theorem sendAck_encBusy (s : State) : (sendAck s).encBusy = s.encBusy := rfl
@[simp] theorem sendAck_encSlot (s : State) : (sendAck s).encSlot = s.encSlot := rfl
@[simp] theorem sendAck_encLen (s : State) : (sendAck s).encLen = s.encLen := rfl
@[simp] theorem sendAck_encPos (s : State) : (sendAck s).encPos = s.encPos := rfl
@[simp] theorem sendAck_encHi (s : State) : (sendAck s).encHi = s.encHi := rfl
@[simp] theorem sendAck_rxMode (s : State) : (sendAck s).rxMode = s.rxMode := rfl
@[simp] theorem sendAck_rxCnt (s : State) : (sendAck s).rxCnt = s.rxCnt := rfl
@[simp] theorem sendAck_rxBuf (s : State) : (sendAck s).rxBuf = s.rxBuf := rfl
@[simp] theorem sendAck_linkOut (s : State) : (sendAck s).linkOut = s.linkOut ++ ackLineBytes s.params s.epoch.toNat s.freq.toNat s.osize := rfl
@[simp] theorem sendAck_timeNow (s : State) : (sendAck s).timeNow = s.timeNow := rfl
@[simp] theorem sendAck_txReady (s : State) : (sendAck s).txReady = s.txReady := rfl
@[simp] theorem sendAck_sched (s : State) : (sendAck s).sched = s.sched := rfl
@[simp] theorem sendAck_draws (s : State) : (sendAck s).draws = s.draws := rfl

/-! ## driveInputs -/

@[simp] theorem driveInputs_params (c : CycleInputs) (s : State) : (driveInputs c s).params = s.params := rfl
@[simp] theorem driveInputs_slots (c : CycleInputs) (s : State) : (driveInputs c s).slots = s.slots := rfl
@[simp] theorem driveInputs_active (c : CycleInputs) (s : State) : (driveInputs c s).active = s.active := rfl
@[simp] theorem driveInputs_cursor (c : CycleInputs) (s : State) : (driveInputs c s).cursor = s.cursor := rfl
@[simp] theorem driveInputs_ready (c : CycleInputs) (s : State) : (driveInputs c s).ready = s.ready := rfl
@[simp] theorem driveInputs_osize (c : CycleInputs) (s : State) : (driveInputs c s).osize = s.osize := rfl
@[simp] theorem driveInputs_phase (c : CycleInputs) (s : State) : (driveInputs c s).phase = s.phase := rfl
@[simp] theorem driveInputs_epoch (c : CycleInputs) (s : State) : (driveInputs c s).epoch = s.epoch := rfl
@[simp] theorem driveInputs_freq (c : CycleInputs) (s : State) : (driveInputs c s).freq = s.freq := rfl
@[simp] theorem driveInputs_fatal (c : CycleInputs) (s : State) : (driveInputs c s).fatal = s.fatal := rfl
@[simp] theorem driveInputs_perr (c : CycleInputs) (s : State) : (driveInputs c s).perr = s.perr := rfl
@[simp] theorem driveInputs_ovr (c : CycleInputs) (s : State) : (driveInputs c s).ovr = s.ovr := rfl
@[simp] theorem driveInputs_tmrCnt (c : CycleInputs) (s : State) : (driveInputs c s).tmrCnt = s.tmrCnt := rfl
@[simp] theorem driveInputs_ts (c : CycleInputs) (s : State) : (driveInputs c s).ts = s.ts := rfl
@[simp] theorem driveInputs_tprev (c : CycleInputs) (s : State) : (driveInputs c s).tprev = s.tprev := rfl
@[simp] theorem driveInputs_encBusy (c : CycleInputs) (s : State) : (driveInputs c s).encBusy = s.encBusy := rfl
@[simp] theorem driveInputs_encSlot (c : CycleInputs) (s : State) : (driveInputs c s).encSlot = s.encSlot := rfl
@[simp] theorem driveInputs_encLen (c : CycleInputs) (s : State) : (driveInputs c s).encLen = s.encLen := rfl
@[simp] theorem driveInputs_encPos (c : CycleInputs) (s : State) : (driveInputs c s).encPos = s.encPos := rfl
@[simp] theorem driveInputs_encHi (c : CycleInputs) (s : State) : (driveInputs c s).encHi = s.encHi := rfl
@[simp] theorem driveInputs_rxMode (c : CycleInputs) (s : State) : (driveInputs c s).rxMode = s.rxMode := rfl
@[simp] theorem driveInputs_rxCnt (c : CycleInputs) (s : State) : (driveInputs c s).rxCnt = s.rxCnt := rfl
@[simp] theorem driveInputs_rxBuf (c : CycleInputs) (s : State) : (driveInputs c s).rxBuf = s.rxBuf := rfl
@[simp] theorem driveInputs_linkOut (c : CycleInputs) (s : State) : (driveInputs c s).linkOut = s.linkOut := rfl
@[simp] theorem driveInputs_timeNow (c : CycleInputs) (s : State) : (driveInputs c s).timeNow = c.time := rfl
@[simp] theorem driveInputs_txReady (c : CycleInputs) (s : State) : (driveInputs c s).txReady = c.txReady := rfl
@[simp] theorem driveInputs_sched (c : CycleInputs) (s : State) : (driveInputs c s).sched = s.sched := rfl
@[simp] theorem driveInputs_draws (c : CycleInputs) (s : State) : (driveInputs c s).draws = s.draws := rfl

/-! ## noteBoundary: the fields it leaves -/

@[simp] theorem noteBoundary_params (t : Time) (s : State) : (noteBoundary t s).params = s.params := by unfold noteBoundary; split <;> rfl
@[simp] theorem noteBoundary_slots (t : Time) (s : State) : (noteBoundary t s).slots = s.slots := by unfold noteBoundary; split <;> rfl
@[simp] theorem noteBoundary_active (t : Time) (s : State) : (noteBoundary t s).active = s.active := by unfold noteBoundary; split <;> rfl
@[simp] theorem noteBoundary_cursor (t : Time) (s : State) : (noteBoundary t s).cursor = s.cursor := by unfold noteBoundary; split <;> rfl
@[simp] theorem noteBoundary_ready (t : Time) (s : State) : (noteBoundary t s).ready = s.ready := by unfold noteBoundary; split <;> rfl
@[simp] theorem noteBoundary_osize (t : Time) (s : State) : (noteBoundary t s).osize = s.osize := by unfold noteBoundary; split <;> rfl
@[simp] theorem noteBoundary_phase (t : Time) (s : State) : (noteBoundary t s).phase = s.phase := by unfold noteBoundary; split <;> rfl
@[simp] theorem noteBoundary_epoch (t : Time) (s : State) : (noteBoundary t s).epoch = s.epoch := by unfold noteBoundary; split <;> rfl
@[simp] theorem noteBoundary_freq (t : Time) (s : State) : (noteBoundary t s).freq = s.freq := by unfold noteBoundary; split <;> rfl
@[simp] theorem noteBoundary_fatal (t : Time) (s : State) : (noteBoundary t s).fatal = s.fatal := by unfold noteBoundary; split <;> rfl
@[simp] theorem noteBoundary_perr (t : Time) (s : State) : (noteBoundary t s).perr = s.perr := by unfold noteBoundary; split <;> rfl
@[simp] theorem noteBoundary_ovr (t : Time) (s : State) : (noteBoundary t s).ovr = s.ovr := by unfold noteBoundary; split <;> rfl
@[simp] theorem noteBoundary_tmrCnt (t : Time) (s : State) : (noteBoundary t s).tmrCnt = s.tmrCnt := by unfold noteBoundary; split <;> rfl
@[simp] theorem noteBoundary_encBusy (t : Time) (s : State) : (noteBoundary t s).encBusy = s.encBusy := by unfold noteBoundary; split <;> rfl
@[simp] theorem noteBoundary_encSlot (t : Time) (s : State) : (noteBoundary t s).encSlot = s.encSlot := by unfold noteBoundary; split <;> rfl
@[simp] theorem noteBoundary_encLen (t : Time) (s : State) : (noteBoundary t s).encLen = s.encLen := by unfold noteBoundary; split <;> rfl
@[simp] theorem noteBoundary_encPos (t : Time) (s : State) : (noteBoundary t s).encPos = s.encPos := by unfold noteBoundary; split <;> rfl
@[simp] theorem noteBoundary_encHi (t : Time) (s : State) : (noteBoundary t s).encHi = s.encHi := by unfold noteBoundary; split <;> rfl
@[simp] theorem noteBoundary_rxMode (t : Time) (s : State) : (noteBoundary t s).rxMode = s.rxMode := by unfold noteBoundary; split <;> rfl
@[simp] theorem noteBoundary_rxCnt (t : Time) (s : State) : (noteBoundary t s).rxCnt = s.rxCnt := by unfold noteBoundary; split <;> rfl
@[simp] theorem noteBoundary_rxBuf (t : Time) (s : State) : (noteBoundary t s).rxBuf = s.rxBuf := by unfold noteBoundary; split <;> rfl
@[simp] theorem noteBoundary_linkOut (t : Time) (s : State) : (noteBoundary t s).linkOut = s.linkOut := by unfold noteBoundary; split <;> rfl
@[simp] theorem noteBoundary_timeNow (t : Time) (s : State) : (noteBoundary t s).timeNow = s.timeNow := by unfold noteBoundary; split <;> rfl
@[simp] theorem noteBoundary_txReady (t : Time) (s : State) : (noteBoundary t s).txReady = s.txReady := by unfold noteBoundary; split <;> rfl
@[simp] theorem noteBoundary_sched (t : Time) (s : State) : (noteBoundary t s).sched = s.sched := by unfold noteBoundary; split <;> rfl
@[simp] theorem noteBoundary_draws (t : Time) (s : State) : (noteBoundary t s).draws = s.draws := by unfold noteBoundary; split <;> rfl

/-! ## noteOverwrite: the fields it leaves -/

@[simp] theorem noteOverwrite_params (i : Nat) (s : State) : (noteOverwrite i s).params = s.params := by unfold noteOverwrite; split <;> rfl
@[simp] theorem noteOverwrite_slots (i : Nat) (s : State) : (noteOverwrite i s).slots = s.slots := by unfold noteOverwrite; split <;> rfl
@[simp] theorem noteOverwrite_active (i : Nat) (s : State) : (noteOverwrite i s).active = s.active := by unfold noteOverwrite; split <;> rfl
@[simp] theorem noteOverwrite_cursor (i : Nat) (s : State) : (noteOverwrite i s).cursor = s.cursor := by unfold noteOverwrite; split <;> rfl
@[simp] theorem noteOverwrite_ready (i : Nat) (s : State) : (noteOverwrite i s).ready = s.ready := by unfold noteOverwrite; split <;> rfl
@[simp] theorem noteOverwrite_osize (i : Nat) (s : State) : (noteOverwrite i s).osize = s.osize := by unfold noteOverwrite; split <;> rfl
@[simp] theorem noteOverwrite_phase (i : Nat) (s : State) : (noteOverwrite i s).phase = s.phase := by unfold noteOverwrite; split <;> rfl
@[simp] theorem noteOverwrite_epoch (i : Nat) (s : State) : (noteOverwrite i s).epoch = s.epoch := by unfold noteOverwrite; split <;> rfl
@[simp] theorem noteOverwrite_freq (i : Nat) (s : State) : (noteOverwrite i s).freq = s.freq := by unfold noteOverwrite; split <;> rfl
@[simp] theorem noteOverwrite_tmrCnt (i : Nat) (s : State) : (noteOverwrite i s).tmrCnt = s.tmrCnt := by unfold noteOverwrite; split <;> rfl
@[simp] theorem noteOverwrite_ts (i : Nat) (s : State) : (noteOverwrite i s).ts = s.ts := by unfold noteOverwrite; split <;> rfl
@[simp] theorem noteOverwrite_tprev (i : Nat) (s : State) : (noteOverwrite i s).tprev = s.tprev := by unfold noteOverwrite; split <;> rfl
@[simp] theorem noteOverwrite_encBusy (i : Nat) (s : State) : (noteOverwrite i s).encBusy = s.encBusy := by unfold noteOverwrite; split <;> rfl
@[simp] theorem noteOverwrite_encSlot (i : Nat) (s : State) : (noteOverwrite i s).encSlot = s.encSlot := by unfold noteOverwrite; split <;> rfl
@[simp] theorem noteOverwrite_encLen (i : Nat) (s : State) : (noteOverwrite i s).encLen = s.encLen := by unfold noteOverwrite; split <;> rfl
@[simp] theorem noteOverwrite_encPos (i : Nat) (s : State) : (noteOverwrite i s).encPos = s.encPos := by unfold noteOverwrite; split <;> rfl
@[simp] theorem noteOverwrite_encHi (i : Nat) (s : State) : (noteOverwrite i s).encHi = s.encHi := by unfold noteOverwrite; split <;> rfl
@[simp] theorem noteOverwrite_rxMode (i : Nat) (s : State) : (noteOverwrite i s).rxMode = s.rxMode := by unfold noteOverwrite; split <;> rfl
@[simp] theorem noteOverwrite_rxCnt (i : Nat) (s : State) : (noteOverwrite i s).rxCnt = s.rxCnt := by unfold noteOverwrite; split <;> rfl
@[simp] theorem noteOverwrite_rxBuf (i : Nat) (s : State) : (noteOverwrite i s).rxBuf = s.rxBuf := by unfold noteOverwrite; split <;> rfl
@[simp] theorem noteOverwrite_linkOut (i : Nat) (s : State) : (noteOverwrite i s).linkOut = s.linkOut := by unfold noteOverwrite; split <;> rfl
@[simp] theorem noteOverwrite_timeNow (i : Nat) (s : State) : (noteOverwrite i s).timeNow = s.timeNow := by unfold noteOverwrite; split <;> rfl
@[simp] theorem noteOverwrite_txReady (i : Nat) (s : State) : (noteOverwrite i s).txReady = s.txReady := by unfold noteOverwrite; split <;> rfl
@[simp] theorem noteOverwrite_sched (i : Nat) (s : State) : (noteOverwrite i s).sched = s.sched := by unfold noteOverwrite; split <;> rfl
@[simp] theorem noteOverwrite_draws (i : Nat) (s : State) : (noteOverwrite i s).draws = s.draws := by unfold noteOverwrite; split <;> rfl

/-! ## noteDrop: the fields it leaves -/

@[simp] theorem noteDrop_params (s : State) : (noteDrop s).params = s.params := by unfold noteDrop; split <;> rfl
@[simp] theorem noteDrop_slots (s : State) : (noteDrop s).slots = s.slots := by unfold noteDrop; split <;> rfl
@[simp] theorem noteDrop_active (s : State) : (noteDrop s).active = s.active := by unfold noteDrop; split <;> rfl
@[simp] theorem noteDrop_cursor (s : State) : (noteDrop s).cursor = s.cursor := by unfold noteDrop; split <;> rfl
@[simp] theorem noteDrop_ready (s : State) : (noteDrop s).ready = s.ready := by unfold noteDrop; split <;> rfl
@[simp] theorem noteDrop_osize (s : State) : (noteDrop s).osize = s.osize := by unfold noteDrop; split <;> rfl
@[simp] theorem noteDrop_phase (s : State) : (noteDrop s).phase = s.phase := by unfold noteDrop; split <;> rfl
@[simp] theorem noteDrop_epoch (s : State) : (noteDrop s).epoch = s.epoch := by unfold noteDrop; split <;> rfl
@[simp] theorem noteDrop_freq (s : State) : (noteDrop s).freq = s.freq := by unfold noteDrop; split <;> rfl
@[simp] theorem noteDrop_tmrCnt (s : State) : (noteDrop s).tmrCnt = s.tmrCnt := by unfold noteDrop; split <;> rfl
@[simp] theorem noteDrop_ts (s : State) : (noteDrop s).ts = s.ts := by unfold noteDrop; split <;> rfl
@[simp] theorem noteDrop_tprev (s : State) : (noteDrop s).tprev = s.tprev := by unfold noteDrop; split <;> rfl
@[simp] theorem noteDrop_encBusy (s : State) : (noteDrop s).encBusy = s.encBusy := by unfold noteDrop; split <;> rfl
@[simp] theorem noteDrop_encSlot (s : State) : (noteDrop s).encSlot = s.encSlot := by unfold noteDrop; split <;> rfl
@[simp] theorem noteDrop_encLen (s : State) : (noteDrop s).encLen = s.encLen := by unfold noteDrop; split <;> rfl
@[simp] theorem noteDrop_encPos (s : State) : (noteDrop s).encPos = s.encPos := by unfold noteDrop; split <;> rfl
@[simp] theorem noteDrop_encHi (s : State) : (noteDrop s).encHi = s.encHi := by unfold noteDrop; split <;> rfl
@[simp] theorem noteDrop_rxMode (s : State) : (noteDrop s).rxMode = s.rxMode := by unfold noteDrop; split <;> rfl
@[simp] theorem noteDrop_rxCnt (s : State) : (noteDrop s).rxCnt = s.rxCnt := by unfold noteDrop; split <;> rfl
@[simp] theorem noteDrop_rxBuf (s : State) : (noteDrop s).rxBuf = s.rxBuf := by unfold noteDrop; split <;> rfl
@[simp] theorem noteDrop_linkOut (s : State) : (noteDrop s).linkOut = s.linkOut := by unfold noteDrop; split <;> rfl
@[simp] theorem noteDrop_timeNow (s : State) : (noteDrop s).timeNow = s.timeNow := by unfold noteDrop; split <;> rfl
@[simp] theorem noteDrop_txReady (s : State) : (noteDrop s).txReady = s.txReady := by unfold noteDrop; split <;> rfl
@[simp] theorem noteDrop_sched (s : State) : (noteDrop s).sched = s.sched := by unfold noteDrop; split <;> rfl
@[simp] theorem noteDrop_draws (s : State) : (noteDrop s).draws = s.draws := by unfold noteDrop; split <;> rfl

/-! ## advanceEncoder: the fields it leaves -/

@[simp] theorem advanceEncoder_params (s : State) : (advanceEncoder s).params = s.params := by unfold advanceEncoder; split <;> rfl
@[simp] theorem advanceEncoder_slots (s : State) : (advanceEncoder s).slots = s.slots := by unfold advanceEncoder; split <;> rfl
@[simp] theorem advanceEncoder_active (s : State) : (advanceEncoder s).active = s.active := by unfold advanceEncoder; split <;> rfl
@[simp] theorem advanceEncoder_cursor (s : State) : (advanceEncoder s).cursor = s.cursor := by unfold advanceEncoder; split <;> rfl
@[simp] theorem advanceEncoder_ready (s : State) : (advanceEncoder s).ready = s.ready := by unfold advanceEncoder; split <;> rfl
@[simp] theorem advanceEncoder_osize (s : State) : (advanceEncoder s).osize = s.osize := by unfold advanceEncoder; split <;> rfl
@[simp] theorem advanceEncoder_phase (s : State) : (advanceEncoder s).phase = s.phase := by unfold advanceEncoder; split <;> rfl
@[simp] theorem advanceEncoder_epoch (s : State) : (advanceEncoder s).epoch = s.epoch := by unfold advanceEncoder; split <;> rfl
@[simp] theorem advanceEncoder_freq (s : State) : (advanceEncoder s).freq = s.freq := by unfold advanceEncoder; split <;> rfl
@[simp] theorem advanceEncoder_fatal (s : State) : (advanceEncoder s).fatal = s.fatal := by unfold advanceEncoder; split <;> rfl
@[simp] theorem advanceEncoder_perr (s : State) : (advanceEncoder s).perr = s.perr := by unfold advanceEncoder; split <;> rfl
@[simp] theorem advanceEncoder_ovr (s : State) : (advanceEncoder s).ovr = s.ovr := by unfold advanceEncoder; split <;> rfl
@[simp] theorem advanceEncoder_tmrCnt (s : State) : (advanceEncoder s).tmrCnt = s.tmrCnt := by unfold advanceEncoder; split <;> rfl
@[simp] theorem advanceEncoder_ts (s : State) : (advanceEncoder s).ts = s.ts := by unfold advanceEncoder; split <;> rfl
@[simp] theorem advanceEncoder_tprev (s : State) : (advanceEncoder s).tprev = s.tprev := by unfold advanceEncoder; split <;> rfl
@[simp] theorem advanceEncoder_encSlot (s : State) : (advanceEncoder s).encSlot = s.encSlot := by unfold advanceEncoder; split <;> rfl
@[simp] theorem advanceEncoder_encLen (s : State) : (advanceEncoder s).encLen = s.encLen := by unfold advanceEncoder; split <;> rfl
@[simp] theorem advanceEncoder_encHi (s : State) : (advanceEncoder s).encHi = s.encHi := by unfold advanceEncoder; split <;> rfl
@[simp] theorem advanceEncoder_rxMode (s : State) : (advanceEncoder s).rxMode = s.rxMode := by unfold advanceEncoder; split <;> rfl
@[simp] theorem advanceEncoder_rxCnt (s : State) : (advanceEncoder s).rxCnt = s.rxCnt := by unfold advanceEncoder; split <;> rfl
@[simp] theorem advanceEncoder_rxBuf (s : State) : (advanceEncoder s).rxBuf = s.rxBuf := by unfold advanceEncoder; split <;> rfl
@[simp] theorem advanceEncoder_linkOut (s : State) : (advanceEncoder s).linkOut = s.linkOut := by unfold advanceEncoder; split <;> rfl
@[simp] theorem advanceEncoder_timeNow (s : State) : (advanceEncoder s).timeNow = s.timeNow := by unfold advanceEncoder; split <;> rfl
@[simp] theorem advanceEncoder_txReady (s : State) : (advanceEncoder s).txReady = s.txReady := by unfold advanceEncoder; split <;> rfl
@[simp] theorem advanceEncoder_sched (s : State) : (advanceEncoder s).sched = s.sched := by unfold advanceEncoder; split <;> rfl
@[simp] theorem advanceEncoder_draws (s : State) : (advanceEncoder s).draws = s.draws := by unfold advanceEncoder; split <;> rfl

/-! ## The fields that the conditional updates write -/

@[simp] theorem noteOverwrite_fatal (i : Nat) (s : State) : (noteOverwrite i s).fatal = s.fatal := by
  unfold noteOverwrite; split <;> simp [ErrorCode.setsFatal]

@[simp] theorem noteOverwrite_perr (i : Nat) (s : State) : (noteOverwrite i s).perr = s.perr := by
  unfold noteOverwrite; split <;> simp [ErrorCode.setsPerr]

@[simp] theorem noteOverwrite_ovr (i : Nat) (s : State) :
    (noteOverwrite i s).ovr = (s.ovr || overwritesUnsent s i) := by
  unfold noteOverwrite; split <;> simp_all [ErrorCode.setsOvr]

@[simp] theorem noteDrop_fatal (s : State) : (noteDrop s).fatal = s.fatal := by
  unfold noteDrop; split <;> simp [ErrorCode.setsFatal]

@[simp] theorem noteDrop_perr (s : State) : (noteDrop s).perr = s.perr := by
  unfold noteDrop; split <;> simp [ErrorCode.setsPerr]

@[simp] theorem noteDrop_ovr (s : State) : (noteDrop s).ovr = (s.ovr || s.ready) := by
  unfold noteDrop; split <;> simp_all [ErrorCode.setsOvr]

/-- As one record: what the conditional updates do. -/
theorem noteOverwrite_eq (i : Nat) (s : State) :
    noteOverwrite i s = { s with ovr := s.ovr || overwritesUnsent s i } := by
  unfold noteOverwrite; split <;> simp_all [recordError, ErrorCode.setsPerr, ErrorCode.setsFatal, ErrorCode.setsOvr]

theorem noteDrop_eq (s : State) : noteDrop s = { s with ovr := s.ovr || s.ready } := by
  unfold noteDrop
  split
  · simp_all [recordError, ErrorCode.setsPerr, ErrorCode.setsFatal, ErrorCode.setsOvr]
  · have : (s.ovr || s.ready) = s.ovr := by simp_all
    rw [this]

end Sys2Proof.Machine
end

