-- ==== Sys2Proof/Laws/Ops.lean ====
section
/-! SUPPORT. What each shared operation can do, said once: later proofs cite these and do not unfold. -/

namespace Sys2Proof.Machine

/-! ## Sequencing -/

@[simp] theorem andThen_next (s : State) (f : State → Host.Outcome State Fault Refusal) : andThen (.next s) f = f s := rfl

@[simp] theorem andThen_fault (r : Fault) (f : State → Host.Outcome State Fault Refusal) :
    andThen (.fault r) f = .fault r := rfl

@[simp] theorem andThen_refused (r : Refusal) (f : State → Host.Outcome State Fault Refusal) :
    andThen (.refused r) f = .refused r := rfl

theorem andThen_eq_next {o : Host.Outcome State Fault Refusal} {f : State → Host.Outcome State Fault Refusal}
    {t : State} : andThen o f = .next t ↔ ∃ u, o = .next u ∧ f u = .next t := by
  cases o <;> simp [andThen]

theorem andThen_eq_fault {o : Host.Outcome State Fault Refusal} {f : State → Host.Outcome State Fault Refusal}
    {r : Fault} : andThen o f = .fault r ↔ o = .fault r ∨ ∃ u, o = .next u ∧ f u = .fault r := by
  cases o <;> simp [andThen]

/-! ## The group write of APPEND -/

/-- The memory after the words `g` are written from word `i` of slot `k` on. -/
def storeGroup (p : Params) (k : Slot) : List Word → Nat → Memory → Memory
  | [], _, m => m
  | w :: ws, i, m => storeGroup p k ws (i + 1) (storeWord p m k i w)

/-- Some write of the `n` words from `i` on is an overrun of case 2 (R121). -/
def overwritesAny (s : State) (i n : Nat) : Bool := (List.range n).any (fun c => overwritesUnsent s (i + c))

theorem overwritesAny_succ (s : State) (i n : Nat) :
    overwritesAny s i (n + 1) = (overwritesUnsent s i || overwritesAny s (i + 1) n) := by
  simp [overwritesAny, List.range_succ_eq_map, List.any_map, Function.comp_def, Nat.add_assoc, Nat.add_comm 1]

theorem overwritesUnsent_congr (s : State) (m : Memory) (o : Bool) (i : Nat) :
    overwritesUnsent { s with slots := m, ovr := o } i = overwritesUnsent s i := rfl

theorem overwritesAny_congr (s : State) (m : Memory) (o : Bool) (i n : Nat) :
    overwritesAny { s with slots := m, ovr := o } i n = overwritesAny s i n := rfl

/-- Within the slot, the loop of R121 writes the group and notes the overruns, and does nothing else. -/
theorem writeGroup_eq (g : List Word) (i : Nat) (s : State) (h : i + g.length ≤ s.params.bufferSize) :
    writeGroup g i s = .next { s with slots := storeGroup s.params s.active g i s.slots
                                      ovr := s.ovr || overwritesAny s i g.length } := by
  induction g generalizing i s with
  | nil => simp [writeGroup, storeGroup, overwritesAny]
  | cons w ws ih =>
    have hi : i < s.params.bufferSize := by simp at h; omega
    rw [writeGroup, noteOverwrite_eq]
    simp only [slotWrite, hi, ↓reduceIte, andThen_next]
    rw [ih _ _ (by simp at h ⊢; omega)]
    simp [storeGroup, overwritesAny_succ, overwritesAny_congr, Bool.or_assoc]

theorem readByte_storeGroup_other (p : Params) (k : Slot) (g : List Word) (i : Nat) (m : Memory) (a : Nat)
    (h : ∀ c, c < g.length → a ≠ slotAddr p k (i + c) ∧ a ≠ slotAddr p k (i + c) + 1) :
    Memory.readByte (storeGroup p k g i m) a = Memory.readByte m a := by
  induction g generalizing i m with
  | nil => rfl
  | cons w ws ih =>
    rw [storeGroup, ih, readByte_storeWord_other]
    · simpa using h 0 (by simp)
    · intro c hc
      have := h (c + 1) (by simpa using hc)
      simpa [Nat.add_assoc, Nat.add_comm 1] using this

theorem wf_storeGroup {m : Memory} (p : Params) (k : Slot) (g : List Word) (i : Nat) (h : Memory.wf m) :
    Memory.wf (storeGroup p k g i m) := by
  induction g generalizing i m with
  | nil => exact h
  | cons w ws ih => exact ih _ (wf_storeWord _ _ _ _ h)

theorem range_storeGroup {p : Params} {m : Memory} (k : Slot) (g : List Word) (i : Nat)
    (hi : i + g.length ≤ p.bufferSize) (h : ∀ c ∈ m, c.1 < 4 * p.bufferSize) :
    ∀ c ∈ storeGroup p k g i m, c.1 < 4 * p.bufferSize := by
  induction g generalizing i m with
  | nil => exact h
  | cons w ws ih =>
    simp only [List.length_cons] at hi
    exact ih _ (by omega) (range_storeWord _ _ (by omega) h)

/-- A word outside the group keeps its value. -/
theorem slotWord_storeGroup_other (s : State) (k k' : Slot) (g : List Word) (i j : Nat)
    (h : ∀ c, c < g.length → slotAddr s.params k' j ≠ slotAddr s.params k (i + c)) :
    slotWord { s with slots := storeGroup s.params k g i s.slots } k' j = slotWord s k' j := by
  have e2 := slotAddr_even s.params k' j
  simp only [slotWord]
  rw [readByte_storeGroup_other, readByte_storeGroup_other]
  all_goals
    intro c hc
    have := h c hc
    have e1 := slotAddr_even s.params k (i + c)
    omega

/-- A word of the group reads back (R121). -/
theorem slotWord_storeGroup (s : State) (k : Slot) (g : List Word) (i c : Nat)
    (hB : i + g.length ≤ s.params.bufferSize) (hc : c < g.length) :
    slotWord { s with slots := storeGroup s.params k g i s.slots } k (i + c) = g[c] := by
  induction g generalizing i c s with
  | nil => simp at hc
  | cons w ws ih =>
    simp only [List.length_cons] at hB hc
    cases c with
    | zero =>
      have := slotWord_storeGroup_other { s with slots := storeWord s.params s.slots k i w } k k ws (i + 1) i
        (fun d hd hh => by have := (slotAddr_inj (p := s.params) (by omega) (by omega) hh).2; omega)
      simp only [storeGroup, Nat.add_zero, List.getElem_cons_zero]
      rw [show slotWord { s with slots := storeGroup s.params k ws (i + 1) (storeWord s.params s.slots k i w) } k i
        = _ from this, slotWord_store_same]
    | succ c =>
      have := ih { s with slots := storeWord s.params s.slots k i w } (i + 1) c (by simp; omega) (by omega)
      simpa [storeGroup, Nat.add_assoc, Nat.add_comm 1] using this

/-- APPEND's body where the frame has room: the group is written, the overruns noted, then the swap or the cursor. -/
theorem appendGroup_eq (g : List Word) (s : State) (hg : g.length = s.params.channels)
    (hc : s.cursor + s.params.channels ≤ s.osize) (hB : s.cursor + s.params.channels ≤ s.params.bufferSize) :
    appendGroup g s = .next (finishAppend
      { s with slots := storeGroup s.params s.active g s.cursor s.slots
               ovr := s.ovr || overwritesAny s s.cursor s.params.channels }) := by
  have h1 : ¬ s.osize < s.cursor + s.params.channels := by omega
  simp only [appendGroup, hg, ne_eq, not_true_eq_false, ↓reduceIte, h1]
  rw [writeGroup_eq _ _ _ (by omega)]
  simp [hg]

theorem writeGroup_next_bound {g : List Word} {i : Nat} {s t : State} (h : writeGroup g i s = .next t) :
    g = [] ∨ i + g.length ≤ s.params.bufferSize := by
  induction g generalizing i s with
  | nil => exact .inl rfl
  | cons w ws ih =>
    right
    rw [writeGroup, andThen_eq_next] at h
    obtain ⟨u, h1, h2⟩ := h
    simp only [slotWrite, noteOverwrite_params] at h1
    split at h1
    · rename_i hi
      cases h1
      rcases ih h2 with rfl | h3
      · simpa using hi
      · simp at h3 ⊢; omega
    · cases h1

/-- If APPEND's body answers a next state, the group had one word a channel and fitted, and the state is that of
`appendGroup_eq`. -/
theorem appendGroup_cases {g : List Word} {s t : State} (h : appendGroup g s = .next t) :
    g.length = s.params.channels ∧ s.cursor + s.params.channels ≤ s.osize ∧
    (g = [] ∨ s.cursor + s.params.channels ≤ s.params.bufferSize) ∧
    t = finishAppend { s with slots := storeGroup s.params s.active g s.cursor s.slots
                              ovr := s.ovr || overwritesAny s s.cursor s.params.channels } := by
  unfold appendGroup at h
  split at h
  · cases h
  · rename_i hg
    split at h
    · cases h
    · rename_i hc
      simp only [ne_eq, Decidable.not_not] at hg
      rw [andThen_eq_next] at h
      obtain ⟨u, h1, h2⟩ := h
      refine ⟨hg, by omega, ?_, ?_⟩
      · rcases writeGroup_next_bound h1 with h0 | h3
        · exact .inl h0
        · exact .inr (by omega)
      · cases h2
        rcases writeGroup_next_bound h1 with rfl | h3
        · simp at hg
          simp only [writeGroup] at h1
          cases h1
          simp [storeGroup, overwritesAny, ← hg]
        · rw [writeGroup_eq _ _ _ h3, hg] at h1
          cases h1
          rfl

/-- The three things the sampler's operations can answer on a state. -/
theorem execAppend_next {g : List Word} {s t : State} (h : execAppend g s = .next t) :
    s.phase = .acquiring ∧ appendGroup g s = .next t := by
  unfold execAppend tickEnabled at h
  split at h
  · simp_all
  · cases h

theorem execTick_next {g : List Word} {u : Time} {s t : State} (h : execTick g u s = .next t) :
    s.phase = .acquiring ∧ appendGroup g (noteBoundary u s) = .next t := by
  unfold execTick tickEnabled at h
  split at h
  · simp_all
  · cases h

/-! ## The drain engine -/

theorem execTake_next {s t : State} (h : execTake s = .next t) :
    s.ready = true ∧ s.encBusy = false ∧ t = latchFrame s := by
  unfold execTake takeEnabled at h
  split at h
  · cases h; simp_all
  · cases h

theorem execEmit_next {s t : State} (h : execEmit s = .next t) :
    s.encBusy = true ∧ s.txReady = true ∧ emitByte s = .next t := by
  unfold execEmit emitEnabled at h
  split at h
  · simp_all
  · cases h

/-- EMIT's body sends one byte and moves on; it may latch a high byte; it changes nothing else. -/
theorem emitByte_cases {s t : State} (h : emitByte s = .next t) :
    ∃ b hi, t = advanceEncoder { s with linkOut := s.linkOut ++ [b], encHi := hi } ∧
      ((s.encPos < 4 ∧ b = 0xFF#8 ∧ hi = s.encHi) ∨
       (4 ≤ s.encPos ∧ (s.encPos - 4) % 2 = 0 ∧ (s.encPos - 4) / 2 < s.params.bufferSize ∧
          b = lowByte (slotWord s s.encSlot ((s.encPos - 4) / 2)) ∧
          hi = highByte (slotWord s s.encSlot ((s.encPos - 4) / 2))) ∨
       (4 ≤ s.encPos ∧ (s.encPos - 4) % 2 = 1 ∧ b = s.encHi ∧ hi = s.encHi)) := by
  unfold emitByte at h
  split at h
  · cases h
    exact ⟨_, _, rfl, .inl ⟨‹_›, rfl, rfl⟩⟩
  · split at h
    · unfold slotRead at h
      split at h
      · rename_i heq
        split at heq
        · cases heq
          cases h
          exact ⟨_, _, rfl, .inr (.inl ⟨by omega, ‹_›, ‹_›, rfl, rfl⟩)⟩
        · cases heq
      · cases h
    · cases h
      exact ⟨_, _, rfl, .inr (.inr ⟨by omega, by omega, rfl, rfl⟩)⟩

/-! ## Control and receiver -/

/-- What CONFIGURE's body can do, every branch (R185). -/
theorem configureWith_cases (r : ParseResult) (s : State) :
    (s.fatal = true ∧ configureWith r s = s) ∨
    (s.fatal = false ∧ (r = .malformed ∨ ∃ e, r = .ok e 0) ∧
      configureWith r s = { pipelineClear s with perr := true }) ∨
    (s.fatal = false ∧ (∃ e f, r = .ok e f ∧ f ≠ 0 ∧ s.params.bufferSize < outputSize s.params f.toNat) ∧
      configureWith r s = { pipelineClear s with perr := false, fatal := true }) ∨
    (s.fatal = false ∧ ∃ e f, r = .ok e f ∧ f ≠ 0 ∧ outputSize s.params f.toNat ≤ s.params.bufferSize ∧
      configureWith r s = startAcquiring e f { pipelineClear s with perr := false }) := by
  cases hf : s.fatal
  · right
    cases r with
    | malformed => left; simp [configureWith, applyConfig, hf, recordError, pipelineClear, ErrorCode.setsPerr, ErrorCode.setsFatal, ErrorCode.setsOvr]
    | ok e f =>
      by_cases h0 : f = 0
      · left; subst h0
        simp [configureWith, applyConfig, hf, recordError, pipelineClear, ErrorCode.setsPerr, ErrorCode.setsFatal, ErrorCode.setsOvr]
      · right
        by_cases hB : s.params.bufferSize < outputSize s.params f.toNat
        · left
          refine ⟨rfl, ⟨e, f, rfl, h0, hB⟩, ?_⟩
          simp only [configureWith, hf, applyConfig, h0, ↓reduceIte, pipelineClear, Bool.false_eq_true]
          rw [if_pos hB]
          simp [recordError, ErrorCode.setsPerr, ErrorCode.setsFatal, ErrorCode.setsOvr]
        · right
          refine ⟨rfl, e, f, rfl, h0, by omega, ?_⟩
          simp only [configureWith, hf, applyConfig, h0, ↓reduceIte, pipelineClear, Bool.false_eq_true]
          exact if_neg hB
  · left; simp [configureWith, hf]

/-- What RX_BYTE can do, every branch (R211). -/
theorem receiveByte_cases (b : Byte) (s : State) :
    (b = codeR ∧ receiveByte b s = resetBlock s) ∨
    (b ≠ codeR ∧ (s.fatal = true ∨ (b ≠ codeT ∧ s.rxMode = .cmd)) ∧ receiveByte b s = s) ∨
    (b = codeT ∧ s.fatal = false ∧ receiveByte b s = startPayload s) ∨
    (b ≠ codeR ∧ b ≠ codeT ∧ s.fatal = false ∧ s.rxMode = .payload ∧ s.rxCnt ≠ 13 ∧
      receiveByte b s = { storePayload b s with rxCnt := s.rxCnt + 1 }) ∨
    (b ≠ codeR ∧ b ≠ codeT ∧ s.fatal = false ∧ s.rxMode = .payload ∧ s.rxCnt = 13 ∧
      receiveByte b s = configureWith (parse (storePayload b s).rxBuf) (receiverToCmd (storePayload b s))) := by
  unfold receiveByte
  by_cases h1 : b = codeR
  · simp [h1]
  · by_cases h2 : s.fatal = true
    · simp [h1, h2]
    · by_cases h3 : b = codeT
      · simp_all
      · cases h4 : s.rxMode
        · simp [h1, h2, h3]
        · by_cases h5 : s.rxCnt = 13
          · simp_all [collectPayload]
          · simp_all [collectPayload]

theorem completesPayload_iff (b : Byte) (s : State) : completesPayload b s = true ↔
    b ≠ codeR ∧ s.fatal = false ∧ b ≠ codeT ∧ s.rxMode = .payload ∧ s.rxCnt = 13 := by
  simp [completesPayload, and_assoc]

/-! ## Dispatch and step -/

/-- RX_BYTE is what each host-byte row performs. -/
theorem exec_classify (s : State) (b : Byte) : exec (classify s.rxMode s.fatal b) s = .next (receiveByte b s) := by
  unfold classify
  split
  · subst_vars; rfl
  · split
    · rfl
    · split
      · subst_vars; rfl
      · cases s.rxMode <;> rfl

/-- What an event runs, whichever way it was chosen. -/
def runEvent (e : Event) (s : State) : Host.Outcome State Fault Refusal :=
  match e with
  | .rx b => .next (receiveByte b s)
  | .tick g t => execTick g t s
  | .take => execTake s
  | .emit => execEmit { s with txReady := true }
  | .now t => .next { s with timeNow := t }
  | .cycle c => clockCycle c s

theorem runFetched_fetchEvent (e : Event) (s : State) : runFetched (fetchEvent e s) = runEvent e s := by
  cases e with
  | rx b => exact exec_classify s b
  | tick g t => rfl
  | take => rfl
  | emit => rfl
  | now t => rfl
  | cycle c => rfl

/-- A step with a scheduled event. -/
theorem step_sched {s : State} {e : Event} {rest : List Event} (h : s.sched = e :: rest) :
    step s = runEvent e { s with sched := rest } := by
  rw [step, fetch, h, ← runFetched_fetchEvent]

/-- A step with no scheduled event. -/
theorem step_free {s : State} (h : s.sched = []) :
    step s = if eventEnabled (drawEvent s.params s.draws) s then
        runEvent (drawEvent s.params s.draws) { s with draws := s.draws + 1 }
      else .next { s with draws := s.draws + 1 } := by
  rw [step, fetch]
  simp only [h]
  split
  · rw [← runFetched_fetchEvent]
  · rfl

end Sys2Proof.Machine
end

