-- ==== Sys2Proof/Laws/PerInstr.lean ====
section
/-! SUPPORT. Statements made for every operation, one lemma a constructor. -/

namespace Sys2Proof.Laws.EncodeLength

/-- The four host-byte rows are one byte long (R96, R211); internal events and outputs have no host encoding (R101). -/
def Statement (i : Instr) : Prop :=
  (encode i).length =
    match i with
    | .resetCmd => 1
    | .configCmd => 1
    | .payloadByte _ => 1
    | .ignoredByte _ => 1
    | .rxByte _ => 0
    | .configure _ => 0
    | .reset => 0
    | .tick _ _ => 0
    | .append _ => 0
    | .take => 0
    | .emit => 0
    | .ackLine => 0
    | .dataFrame => 0

theorem resetCmd : Statement .resetCmd := rfl
theorem configCmd : Statement .configCmd := rfl
theorem payloadByte (b : Byte) : Statement (.payloadByte b) := rfl
theorem ignoredByte (b : Byte) : Statement (.ignoredByte b) := rfl
theorem rxByte (b : Byte) : Statement (.rxByte b) := rfl
theorem configure (r : ParseResult) : Statement (.configure r) := rfl
theorem reset : Statement .reset := rfl
theorem tick (g : List Word) (t : Time) : Statement (.tick g t) := rfl
theorem append (g : List Word) : Statement (.append g) := rfl
theorem take : Statement .take := rfl
theorem emit : Statement .emit := rfl
theorem ackLine : Statement .ackLine := rfl
theorem dataFrame : Statement .dataFrame := rfl

end Sys2Proof.Laws.EncodeLength
end

