-- ==== Sys2Proof/Laws/Step.lean ====
section
/-! SUPPORT. What one step can do, said once: a step is the run of its next event, and every step is a chain of micro steps
(an input changes, the timer counts, a byte is received, TICK, TAKE, EMIT). -/

namespace Sys2Proof.Machine

/-- A step runs its next event on the state with the schedule or the draw counter moved on; a drawn agent that has no step only
counts the draw. -/
theorem step_cases {s t : State} (h : step s = .next t) :
    (s.sched = [] ∧ t = { s with draws := s.draws + 1 }) ∨
    ∃ es n, runEvent (nextEvent s) { s with sched := es, draws := n } = .next t := by
  cases hs : s.sched with
  | nil =>
    rw [step_free hs] at h
    split at h
    · right
      exact ⟨[], s.draws + 1, by rw [nextEvent, hs]; simpa [hs] using h⟩
    · cases h
      exact .inl ⟨rfl, by simp [hs]⟩
  | cons e rest =>
    rw [step_sched hs] at h
    exact .inr ⟨rest, s.draws, by rw [nextEvent, hs]; exact h⟩

/-- If a step faults, so does its event. -/
theorem step_fault_cases {s : State} {r : Fault} (h : step s = .fault r) :
    ∃ es n, runEvent (nextEvent s) { s with sched := es, draws := n } = .fault r := by
  cases hs : s.sched with
  | nil =>
    rw [step_free hs] at h
    split at h
    · exact ⟨[], s.draws + 1, by rw [nextEvent, hs]; simpa [hs] using h⟩
    · cases h
  | cons e rest =>
    rw [step_sched hs] at h
    exact ⟨rest, s.draws, by rw [nextEvent, hs]; exact h⟩

/-- The parts that steps are made of. -/
inductive Micro : State → State → Prop where
  /-- the schedule, the draw counter or an input line changes -/
  | env (s : State) (es : List Event) (n : Nat) (now : Time) (tx : Bool) :
      Micro s { s with sched := es, draws := n, timeNow := now, txReady := tx }
  /-- the timer counts, or wraps to 0 -/
  | count (s : State) (n : Nat) (ha : s.phase = .acquiring) (hn : n < timerPeriod s.params s.freq.toNat) :
      Micro s { s with tmrCnt := n }
  | receive (s : State) (b : Byte) : Micro s (receiveByte b s)
  | tick {s t : State} (g : List Word) (u : Time) (h : execTick g u s = .next t) : Micro s t
  | take {s t : State} (h : execTake s = .next t) : Micro s t
  | emit {s t : State} (h : execEmit s = .next t) : Micro s t

/-- A chain of micro steps. -/
abbrev Micros : State → State → Prop := Relation.ReflTransGen Micro

theorem cycleTimer_micros {b : Bool} {c : CycleInputs} {s t : State} (h : cycleTimer b c s = .next t) : Micros s t := by
  unfold cycleTimer at h
  split at h
  · rename_i hen
    have ha : s.phase = .acquiring := by simp [tickEnabled] at hen; exact hen.1
    unfold timerCount at h
    split at h
    · cases h
    · rename_i hp
      split at h
      · cases h
        exact .single (.count s _ ha (by assumption))
      · exact .tail (.single (.count s 0 ha (by omega))) (.tick _ _ h)
  · cases h; exact .refl

theorem cycleTake_micros {c : CycleInputs} {s t : State} (h : cycleTake c s = .next t) : Micros s t := by
  unfold cycleTake at h
  split at h
  · exact .single (.take h)
  · cases h; exact .refl

theorem cycleEmit_micros {s t : State} (h : cycleEmit s = .next t) : Micros s t := by
  unfold cycleEmit at h
  split at h
  · exact .single (.emit h)
  · cases h; exact .refl

theorem cycleReceive_micros (c : CycleInputs) (s : State) : Micros s (cycleReceive c s) := by
  unfold cycleReceive
  split
  · exact .single (.receive _ _)
  · exact .refl

/-- A clock cycle is its host byte, its timer, its TAKE and its EMIT, one after the other (R248). -/
theorem clockCycle_cases {c : CycleInputs} {s t : State} (h : clockCycle c s = .next t) :
    ∃ u v, cycleTimer (restartsTimer c s) c (cycleReceive c (driveInputs c s)) = .next u ∧
      cycleTake c u = .next v ∧ cycleEmit v = .next t := by
  rw [clockCycle, andThen_eq_next] at h
  obtain ⟨u, h1, h2⟩ := h
  rw [andThen_eq_next] at h2
  obtain ⟨v, h3, h4⟩ := h2
  exact ⟨u, v, h1, h3, h4⟩

theorem clockCycle_micros {c : CycleInputs} {s t : State} (h : clockCycle c s = .next t) : Micros s t := by
  obtain ⟨u, v, h1, h2, h3⟩ := clockCycle_cases h
  have h0 : Micros s (driveInputs c s) := .single (.env s s.sched s.draws c.time c.txReady)
  exact (((h0.trans (cycleReceive_micros c _)).trans (cycleTimer_micros h1)).trans (cycleTake_micros h2)).trans
    (cycleEmit_micros h3)

theorem runEvent_micros {e : Event} {s t : State} (h : runEvent e s = .next t) : Micros s t := by
  cases e with
  | rx b => cases h; exact .single (.receive _ _)
  | tick g u => exact .single (.tick g u h)
  | take => exact .single (.take h)
  | emit => exact .tail (.single (.env s s.sched s.draws s.timeNow true)) (.emit h)
  | now u => cases h; exact .single (.env s s.sched s.draws u s.txReady)
  | cycle c => exact clockCycle_micros h

/-- Every step is a chain of micro steps. -/
theorem step_micros {s t : State} (h : step s = .next t) : Micros s t := by
  rcases step_cases h with ⟨_, rfl⟩ | ⟨es, n, h⟩
  · exact .single (.env s s.sched (s.draws + 1) s.timeNow s.txReady)
  · exact .trans (.single (.env s es n s.timeNow s.txReady)) (runEvent_micros h)

/-- A property that every micro step keeps, every step keeps. -/
theorem step_keeps {P : State → Prop} (hP : ∀ s t, Micro s t → P s → P t) {s t : State} (h : step s = .next t)
    (hs : P s) : P t := by
  have hm := step_micros h
  clear h
  induction hm with
  | refl => exact hs
  | tail _ hm ih => exact hP _ _ hm ih

/-- A property of every reachable state: it holds after power-on and every step keeps it. -/
theorem reachable_induction {P : State → Prop}
    (h0 : ∀ (p : Params) (es : List Event), p.wf = true → P { State.powerOn p with sched := es })
    (hP : ∀ s t, P s → step s = .next t → P t) {s : State} (h : Reachable s) : P s := by
  obtain ⟨p, es, n, hp, hr⟩ := h
  have key : ∀ (n : Nat) (u : State), P u → ∀ v, Host.Core.run Sys2Proof.core n u = .next v → P v := by
    intro n
    induction n with
    | zero => intro u hu v hv; cases hv; exact hu
    | succ n ih =>
      intro u hu v hv
      simp only [Host.Core.run] at hv
      split at hv
      · rename_i w hw; exact ih w (hP _ _ hu hw) v hv
      · cases hv
      · cases hv
  exact key n _ (h0 p es hp) s hr

/-! ## Runs -/

theorem runEvents_nil (s : State) : runEvents [] s = .next { s with sched := [] } := rfl

/-- A run of `e` and then `es` is the run of `es` from where `e` leads. -/
theorem runEvents_cons {e : Event} {es : List Event} {s t : State} (h : runEvent e { s with sched := es } = .next t)
    (hs : t.sched = es) : runEvents (e :: es) s = runEvents es t := by
  simp only [runEvents, runSched, List.length_cons, Host.Core.run]
  have h1 : step { s with sched := e :: es } = .next t := (step_sched rfl).trans h
  have h2 : Sys2Proof.core.step { s with sched := e :: es } = .next t := h1
  rw [h2]
  simp only
  rw [← hs]

/-! ## Room in a frame -/

theorem params_of_wf {p : Params} (h : p.wf = true) :
    1 ≤ p.channels ∧ 1 ≤ p.bufferSize ∧ 1 ≤ p.spDen ∧ 999 ≤ p.timerClkHz := by
  simp [Params.wf] at h; omega

/-- While acquiring, a whole group fits behind the cursor (R61 (i), (ii)), so APPEND never meets X1. -/
theorem group_fits {s : State} (hs : Inv s) (ha : s.phase = .acquiring) : s.cursor + s.params.channels ≤ s.osize := by
  obtain ⟨_, _, h3, h4, _⟩ := hs.acquiring ha
  obtain ⟨a, ha⟩ := Nat.dvd_of_mod_eq_zero h3
  obtain ⟨b, hb⟩ := Nat.dvd_of_mod_eq_zero hs.cursor_mod
  rw [ha, hb] at h4 ⊢
  have hlt : b < a := by
    by_contra hh
    exact absurd (Nat.mul_le_mul_left s.params.channels (Nat.le_of_not_lt hh)) (by omega)
  calc s.params.channels * b + s.params.channels = s.params.channels * (b + 1) := by ring
    _ ≤ _ := Nat.mul_le_mul_left _ hlt

end Sys2Proof.Machine
end

