-- ==== Sys2Proof/Tests/Slice0.lean ====
section
/-! SUPPORT. Tests. Expected values are those of spec/95_test_vectors.md (the vector's name stands in the comment) or are
worked out by hand from the rule named; then one witness for each statement that has hypotheses. -/

namespace Sys2Proof.Tests

open Sys2Proof Sys2Proof.Machine

/-! ## Well-formedness: an ill-formed term for each check -/

theorem test_wf_default : Params.default.wf = true := by decide
/-- the smallest values that R6, R7, R8 and R144 allow -/
theorem test_wf_smallest : (Params.mk 1 1 1 1 999 1 1 []).wf = true := by decide
theorem test_wf_no_channel : { Params.default with channels := 0 }.wf = false := by decide
theorem test_wf_no_buffer : { Params.default with bufferSize := 0 }.wf = false := by decide
theorem test_wf_zero_period : { Params.default with spNum := 0 }.wf = false := by decide
theorem test_wf_zero_denominator : { Params.default with spDen := 0 }.wf = false := by decide
theorem test_wf_slow_timer : { Params.default with timerClkHz := 998 }.wf = false := by decide
theorem test_wf_time_unit : { Params.default with timeUnitNum := 0 }.wf = false := by decide
theorem test_wf_time_unit_denominator : { Params.default with timeUnitDen := 0 }.wf = false := by decide
theorem test_wf_eol : { Params.default with ackEol := [0x0D#8, 0xFF#8] }.wf = false := by decide
theorem test_wf_epoch : ParseResult.wf (.ok 9999999999 0) = true ∧ ParseResult.wf (.ok 10000000000 0) = false := by decide
theorem test_wf_frequency : ParseResult.wf (.ok 0 999) = true ∧ ParseResult.wf (.ok 0 1000) = false := by decide
theorem test_wf_configure : (Instr.configure (.ok 0 1000)).wf Params.default = false := by decide
theorem test_wf_payload_byte : (Instr.payloadByte 0x52#8).wf Params.default = false ∧
    (Instr.payloadByte 0x54#8).wf Params.default = false := by decide
theorem test_wf_ignored_byte : (Instr.ignoredByte 0x52#8).wf Params.default = false := by decide
theorem test_wf_group : (Instr.tick [1, 2] 0).wf Params.default = false ∧
    (Instr.append [1, 2, 3, 4]).wf Params.default = false ∧ (Instr.append [1, 2, 3]).wf Params.default = true := by decide
theorem test_wf_event : Event.wf Params.default (.tick [] 0) = false ∧
    Event.wf Params.default (.cycle ⟨none, [1], 0, false, false⟩) = false := by decide

/-! ## Decoding: words written out from the spec's encodings -/

/-- R91 and the row's encoding 01010010 -/
theorem test_decode_reset_cmd : decode .cmd false [0b01010010#8] = .ok (.resetCmd, []) := by decide
/-- R92 and the row's encoding 01010100; the payload's bytes follow -/
theorem test_decode_config_cmd :
    decode .cmd false [0b01010100#8, 0x31#8, 0x37#8] = .ok (.configCmd, [0x31#8, 0x37#8]) := by decide
theorem test_decode_payload_byte : decode .payload false [0x46#8] = .ok (.payloadByte 0x46#8, []) := by decide
theorem test_decode_ignored_byte : decode .cmd false [0xFF#8] = .ok (.ignoredByte 0xFF#8, []) ∧
    decode .payload true [0x54#8] = .ok (.ignoredByte 0x54#8, []) := by decide
theorem test_decode_nothing : decode .cmd false [] = .error .noByte := by decide
/-- the events of R102 -/
theorem test_decode_events : decodeEvent .payload false (.rx 0x39#8) = some (.payloadByte 0x39#8) ∧
    decodeEvent .cmd false (.tick [1, 2, 3] 5) = some (.tick [1, 2, 3] 5) ∧
    decodeEvent .cmd false .take = some .take ∧ decodeEvent .cmd false .emit = some .emit ∧
    decodeEvent .cmd false (.now 7) = none := by decide
/-- the table's words: CONFIG_CMD has 15 bytes, the 14 later ones zero -/
theorem test_table_words : decodeTableWord 8 0x52 = some .resetCmd ∧ decodeTableWord 120 0x54 = some .configCmd := by
  decide
/-- R103: `cfg` is 15 received bytes (PS2), `emit*2` two events, `reset` the byte 'R' -/
theorem test_expand_trace :
    expandTrace [.cfg (fixedDigits 10 1700000000) (fixedDigits 3 5), .emits 2, .reset] =
      [.rx 0x54, .rx 0x31, .rx 0x37, .rx 0x30, .rx 0x30, .rx 0x30, .rx 0x30, .rx 0x30, .rx 0x30, .rx 0x30, .rx 0x30,
       .rx 0x46, .rx 0x30, .rx 0x30, .rx 0x35, .emit, .emit, .rx 0x52] := by decide

/-- The 14 payload bytes of vectors PS3, PS6, PS8. -/
def ps3 : Vector Byte 14 :=
  #v[0x39, 0x39, 0x39, 0x39, 0x39, 0x39, 0x39, 0x39, 0x39, 0x39, 0x46, 0x39, 0x39, 0x39]
def ps6 : Vector Byte 14 :=
  #v[0x31, 0x37, 0x30, 0x30, 0x30, 0x30, 0x30, 0x30, 0x78, 0x30, 0x46, 0x30, 0x30, 0x35]
def ps8 : Vector Byte 14 :=
  #v[0x31, 0x37, 0x30, 0x30, 0x30, 0x30, 0x30, 0x30, 0x30, 0x30, 0x58, 0x30, 0x30, 0x35]

/-- PS3, PS6, PS8 -/
theorem test_parse : parse ps3 = .ok 9999999999 999 ∧ parse ps6 = .malformed ∧ parse ps8 = .malformed := by decide

/-! ## Values -/

/-- OS1, OS2, OS5, OS6, OS9, OS11 -/
theorem test_output_size : outputSize Params.default 1 = 3 ∧ outputSize Params.default 4 = 3 ∧
    outputSize Params.default 10 = 6 ∧ outputSize Params.default 100 = 60 ∧ outputSize Params.default 999 = 597 ∧
    outputSize { Params.default with channels := 1 } 999 = 199 := by decide
/-- OS14, OS15 -/
theorem test_output_size_long_period : outputSize { Params.default with spNum := 2, spDen := 1 } 170 = 1020 ∧
    outputSize { Params.default with spNum := 2, spDen := 1 } 171 = 1026 := by decide
/-- FB1; and the words of FB4, by R162 (the vector itself lists two bytes too many: log 21) -/
theorem test_frame_bytes : frameBytes [0x0001, 0x0203, 0x7FFF] = [0xFF, 0xFF, 0xFF, 0xFF, 0x01, 0, 0x03, 0x02, 0xFF, 0x7F] ∧
    frameBytes [0xFF00, 0xFFFF, 0x00FF] = [0xFF, 0xFF, 0xFF, 0xFF, 0, 0xFF, 0xFF, 0xFF, 0xFF, 0] := by decide
/-- FB6 -/
theorem test_decode_frame :
    decodeFrame [0xFF, 0xFF, 0xFF, 0xFF, 0x01, 0, 0x03, 0x02, 0xFF, 0x7F] = some [0x0001, 0x0203, 0x7FFF] := by decide

/-! ## One operation on a small state -/

/-- Acquiring at the default parameters, with output size `os`. -/
def acq (os : Nat) : State := { State.reset with phase := .acquiring, freq := 10, osize := os }

/-- A state in which a frame of words 0x0203, 0x7FFF, 0x0102 of slot 0 is being sent, at byte `pos`. -/
def sending (pos : Nat) : State :=
  { acq 3 with
      active := .one, encBusy := true, encLen := 3, encPos := pos, encHi := 0x02, txReady := true
      slots := [(0, 0x03), (1, 0x02), (2, 0xFF), (3, 0x7F), (4, 0x02), (5, 0x01)] }

/-- RX4 -/
theorem test_reset_cmd :
    (nextOf (exec .resetCmd { acq 6 with rxMode := .payload, rxCnt := 5 })).map
      (fun t => (t.rxMode, t.rxCnt, t.phase, t.osize)) = some (.cmd, 0, .idle, 0) := by decide
/-- RX5 -/
theorem test_config_cmd :
    (nextOf (exec .configCmd { State.reset with rxMode := .payload, rxCnt := 4 })).map (fun t => (t.rxMode, t.rxCnt))
      = some (.payload, 0) := by decide
/-- RX2 -/
theorem test_payload_byte :
    (nextOf (exec (.payloadByte 0x30) { State.reset with rxMode := .payload, rxCnt := 4, rxBuf := ps3 })).map
      (fun t => (t.rxBuf[4], t.rxCnt)) = some (0x30, 5) := by decide
/-- RX6 -/
theorem test_ignored_byte : exec (.ignoredByte 0xFF) State.reset = .next State.reset := rfl
/-- RX8 -/
theorem test_rx_reset :
    (nextOf (exec (.rxByte 0x52) { State.reset with fatal := true })).map (fun t => (t.fatal, t.phase, waitOut t))
      = some (false, .idle, true) := by decide
/-- RX3 with PS8: the 14th byte performs CONFIGURE in the same step -/
theorem test_rx_last_payload_byte :
    (nextOf (exec (.rxByte 0x35) { State.reset with rxMode := .payload, rxCnt := 13, rxBuf := ps8 })).map
      (fun t => (t.rxMode, t.rxCnt, t.perr, t.phase)) = some (.cmd, 0, true, .idle) := by decide
/-- CF1, with AK2 on the link -/
theorem test_configure :
    (nextOf (exec (.configure (.ok 1700000000 5)) { State.reset with timeNow := 1000, perr := true })).map
      (fun t => ((t.phase, t.osize, t.epoch, t.freq), (t.ts, t.tprev, t.perr), t.linkOut)) =
    some ((.acquiring, 3, 1700000000, 5), (0, 1000, false),
      [0x31, 0x37, 0x30, 0x30, 0x30, 0x30, 0x30, 0x30, 0x30, 0x30, 0x20, 0x30, 0x30, 0x35, 0x20, 0x33, 0x0A]) := by decide
/-- CF5 -/
theorem test_configure_zero_frequency :
    (nextOf (exec (.configure (.ok 0 0)) { acq 6 with cursor := 3 })).map
      (fun t => ((t.phase, t.perr, t.osize), t.freq, t.cursor, t.linkOut)) = some ((.idle, true, 0), 10, 0, []) := by decide
/-- RS2 -/
theorem test_reset :
    exec .reset { sending 37 with osize := 60, cursor := 21, ready := true, ovr := true, ts := 9 } =
      .next { State.reset with freq := 10, ts := 9, encLen := 3, encHi := 0x02, txReady := true
                               slots := (sending 37).slots } := by rfl
/-- AP1 -/
theorem test_tick :
    (nextOf (exec (.tick [1, 2, 3] 300) { acq 6 with tprev := 100 })).map
      (fun t => (slotRead t .zero 0, slotRead t .zero 2, t.cursor, t.ts, t.tprev, t.ready)) =
    some (some 1, some 3, 3, 200, 300, false) := by decide
/-- AP5 -/
theorem test_tick_time_wraps :
    (nextOf (exec (.tick [1, 2, 3] 0x10) { acq 6 with tprev := 0xFFFFFF00 })).map (fun t => (t.ts, t.tprev)) =
    some (0x110, 0x10) := by decide
/-- AP4 -/
theorem test_append_drops_frame :
    (nextOf (exec (.append [10, 11, 12]) { acq 6 with active := .one, cursor := 3, ready := true })).map
      (fun t => (t.ovr, t.ready, t.active, t.cursor, slotRead t .one 5)) = some (true, true, .zero, 0, some 12) := by decide
/-- AP6 and AP7: only a word that is not yet read makes an overrun -/
theorem test_append_overwrites_unsent :
    (nextOf (exec (.append [0x121, 0x22, 0x23]) { acq 6 with encBusy := true, encLen := 6, encPos := 5 })).map
      (fun t => (t.ovr, t.cursor)) = some (true, 3) ∧
    (nextOf (exec (.append [1, 2, 3]) { acq 6 with encBusy := true, encLen := 6, encPos := 11 })).map (fun t => t.ovr) =
      some false := by decide
/-- TK1 -/
theorem test_take :
    (nextOf (exec .take { acq 6 with ready := true, active := .one })).map
      (fun t => (t.encSlot, t.encLen, t.encPos, t.encBusy, t.ready)) = some (.zero, 6, 0, true, false) := by decide
/-- EM3 -/
theorem test_emit_low_byte :
    (nextOf (exec .emit (sending 4))).map (fun t => (t.linkOut, t.encHi, t.encPos)) = some ([0x03], 0x02, 5) := by decide
/-- EM5 -/
theorem test_emit_last_byte :
    (nextOf (exec .emit (sending 9))).map (fun t => (t.linkOut, t.encBusy, t.encPos)) = some ([0x02], false, 0) := by decide
/-- AK3 -/
theorem test_ack_line :
    (nextOf (exec .ackLine { acq 3 with epoch := 42, freq := 5 })).map (fun t => t.linkOut) =
    some [0x34, 0x32, 0x20, 0x30, 0x30, 0x35, 0x20, 0x33, 0x0A] := by decide
/-- R162 -/
theorem test_data_frame :
    (nextOf (exec .dataFrame (sending 0))).map (fun t => (t.linkOut, t.encBusy)) =
    some ([0xFF, 0xFF, 0xFF, 0xFF, 0x03, 0x02, 0xFF, 0x7F, 0x02, 0x01], false) := by decide
/-- R281 (linkRate): `(4 + 2*OSIZE) * FREQ * C / OSIZE` at FREQ = 100: 124 * 100 * 3 / 60 = 620 -/
theorem test_link_rate : linkRate Params.default 100 = 620 := by decide

/-! ## Witnesses: a state and operands that meet the hypotheses of each statement that has some, one for each clause, at
the boundary values -/

/-- The second frame's first byte pair is on the link: 3 words a frame at 5 Hz, ack sent, EMIT next. -/
def live : State :=
  { State.reset with
      phase := .acquiring, freq := 5, osize := 3, active := .one, encBusy := true, encLen := 3, encPos := 5
      encHi := 0x02, txReady := true
      slots := [(0, 0x03), (1, 0x02), (2, 0xFF), (3, 0x7F), (4, 0x02), (5, 0x01)]
      linkOut := ackLineBytes Params.default 0 5 3 ++ [0xFF, 0xFF, 0xFF, 0xFF, 0x03]
      sched := [.emit] }

/-- A 14th payload byte is next, with `f` Hz in the payload, in a block whose slots hold `b` samples. -/
def lastByte (b f : Nat) : State :=
  { State.powerOn { Params.default with bufferSize := b } with
      rxMode := .payload, rxCnt := 13, rxBuf := (encodePayload 0 f).set 13 0, sched := [.rx (digitByte (f % 10))] }

theorem live_inv : Inv live := by
  constructor
  · constructor <;> decide
  all_goals decide

theorem live_runs : ∃ t, step live = .next t := ⟨_, rfl⟩

theorem witness_PowerOnMeetsInvariant : Params.default.wf = true ∧ (Params.mk 1 1 1 1 999 1 1 []).wf = true := by decide

theorem witness_ResetIsIdempotent : ∃ t, exec .reset live = .next t := ⟨_, rfl⟩
theorem witness_ResetAgainstPowerOn : ∃ t, exec .reset live = .next t := ⟨_, rfl⟩

theorem witness_StepRunsScheduledEvent :
    (live.sched = .emit :: [] ∧ decodeEvent live.rxMode live.fatal .emit = some .emit) ∧
    ({ live with sched := [.now 3] } : State).sched = .now 3 :: [] ∧
    ({ live with sched := [.cycle ⟨none, [], 0, false, false⟩] } : State).sched = .cycle ⟨none, [], 0, false, false⟩ :: [] :=
  ⟨⟨rfl, rfl⟩, rfl, rfl⟩

theorem witness_StepRunsFreeDraw : State.reset.sched = [] := rfl

theorem witness_DecodeEncodeAgree :
    Instr.resetCmd.admitted .payload true = true ∧ Instr.configCmd.admitted .payload false = true ∧
    (Instr.payloadByte 0xFF).admitted .payload false = true ∧ (Instr.ignoredByte 0x00).admitted .cmd false = true ∧
    (Instr.ignoredByte 0x54).admitted .payload true = true ∧
    (encodeEvent (.tick [1] 2) = some (.tick [1] 2) ∧ encode (.tick [1] 2) = []) := by decide

/-- R101 -/
theorem test_internal_operations_have_no_bytes : encode (.rxByte 0x52) = [] ∧ encode .reset = [] ∧ encode .take = [] := by
  decide
theorem witness_InternalOperationsHaveNoEncoding : Instr.rxByte 0x52 ∈ ([.take, .emit, .reset, .rxByte 0x52] : List Instr) := by
  decide

theorem witness_ParseRule :
    ((∀ k : Fin 14, k.val < 10 → 0x30 ≤ ps3[k].toNat ∧ ps3[k].toNat ≤ 0x39) ∧ ps3[10] = 0x46#8 ∧
      (∀ k : Fin 14, 11 ≤ k.val → 0x30 ≤ ps3[k].toNat ∧ ps3[k].toNat ≤ 0x39)) ∧
    ¬ ps8[10] = 0x46#8 := by decide

theorem witness_PayloadParseEncodeAgree : (9999999999 ≤ 9999999999 ∧ 999 ≤ 999) ∧ parse ps3 = .ok 9999999999 999 := by
  decide

theorem witness_ReceiveByteRule :
    live.fatal = false ∧ State.reset.rxMode = .cmd ∧ ({ live with fatal := true } : State).fatal = true ∧
    ({ live with rxMode := .payload, rxCnt := 12 } : State).rxCnt ≠ 13 ∧
    (lastByte 1024 5).rxCnt = 13 ∧ (lastByte 1024 5).rxMode = .payload ∧ (lastByte 1024 5).fatal = false := by decide

theorem witness_HostByteRowsComplete :
    (Instr.ignoredByte 0x35).admitted State.reset.rxMode State.reset.fatal = true ∧
    (Instr.payloadByte 0x35).admitted (lastByte 1024 5).rxMode (lastByte 1024 5).fatal = true ∧
    (lastByte 1024 5).rxCnt = 13 ∧ ({ lastByte 1024 5 with rxCnt := 12 } : State).rxCnt ≠ 13 := by decide

theorem witness_PayloadStaysPending : (∃ t, step live = .next t) ∧ incoming live = none := ⟨live_runs, rfl⟩

theorem witness_CommandBytesPerformConfigure : live.fatal = false ∧ 9999999999 ≤ 9999999999 ∧ 999 ≤ 999 := by decide

theorem witness_OutputSizeRule : 1 ≤ Params.default.spDen := by decide

theorem witness_ConfigureRule :
    ({ live with fatal := true } : State).fatal = true ∧ live.fatal = false ∧ (10 : BitVec 10) ≠ 0 ∧
    (lastByte 5 10).params.bufferSize < outputSize (lastByte 5 10).params 10 ∧
    outputSize (lastByte 6 10).params 10 ≤ (lastByte 6 10).params.bufferSize := by decide

theorem witness_AckLineRule : (decText 0).head? = some 0x30#8 ∧ 999 ≤ 999 := by decide

theorem witness_AcquiringOnlyByConfiguration :
    (lastByte 6 10).phase = .idle ∧ (nextOf (step (lastByte 6 10))).map (fun t => t.phase) = some .acquiring := by decide

/-- A block in the fatal state, `'T'` next. -/
def fatalState : State := { State.reset with fatal := true, sched := [.rx 0x54] }

theorem witness_FatalStateIsInert :
    Inv fatalState ∧ fatalState.fatal = true ∧ (∃ t, step fatalState = .next t) ∧ incoming fatalState ≠ some 0x52#8 := by
  refine ⟨?_, rfl, ⟨_, rfl⟩, by decide⟩
  constructor
  · constructor <;> decide
  all_goals decide

theorem witness_ErrorFlagsClearedOnlyByReset :
    (nextOf (step { fatalState with ovr := true, perr := true, sched := [.rx 0x52] })).map
      (fun t => (t.fatal, t.ovr, t.perr)) = some (false, false, false) ∧
    (nextOf (step { lastByte 6 10 with perr := true })).map (fun t => t.perr) = some false := by decide

/-- Two groups a frame in slots of 6 words: the first group, and (at cursor 3) the last one of the slot. -/
def six (cur : Nat) : State :=
  { State.powerOn { Params.default with bufferSize := 6 } with phase := .acquiring, freq := 10, osize := 6, cursor := cur }

theorem witness_AppendRule :
    (six 0).phase = .acquiring ∧ [1, 2, 3].length = (six 0).params.channels ∧
    (six 0).cursor + (six 0).params.channels ≤ (six 0).osize ∧ (six 0).osize ≤ (six 0).params.bufferSize ∧
    (six 0).cursor + (six 0).params.channels ≠ (six 0).osize ∧
    (six 3).cursor + (six 3).params.channels = (six 3).osize := by decide

theorem witness_TickRule :
    (six 0).phase = .acquiring ∧ [1, 2, 3].length = (six 0).params.channels ∧
    (six 0).cursor + (six 0).params.channels ≤ (six 0).osize ∧ (six 0).osize ≤ (six 0).params.bufferSize ∧
    (six 0).cursor = 0 ∧ (six 3).cursor ≠ 0 ∧ (six 3).cursor + (six 3).params.channels ≤ (six 3).osize ∧
    State.reset.phase = .idle := by decide

theorem witness_SamplerStops :
    State.reset.phase = .idle ∧ (six 0).phase = .acquiring ∧ [1, 2].length ≠ (six 0).params.channels ∧
    [1, 2, 3].length = (six 0).params.channels ∧ (six 4).osize < (six 4).cursor + (six 4).params.channels ∧
    ({ six 4 with osize := 7 } : State).cursor + ({ six 4 with osize := 7 } : State).params.channels ≤ 7 ∧
    (six 4).params.bufferSize < (six 4).cursor + (six 4).params.channels := by decide

theorem witness_TakeRule :
    (({ six 0 with ready := true } : State).ready = true ∧ ({ six 0 with ready := true } : State).encBusy = false) ∧
    (six 0).ready = false ∧ live.encBusy = true := by decide

theorem witness_SlotMemoryRule : 5 < (six 0).params.bufferSize ∧ (six 0).params.bufferSize ≤ 6 := by decide

theorem witness_TimestampMeasuresFromConfiguration :
    (∃ t, step live = .next t) ∧ ∃ t, step (lastByte 6 10) = .next t := ⟨live_runs, ⟨_, rfl⟩⟩

theorem witness_FrameBytesRule : ([0x0203, 0x7FFF] : List Word)[1]? = some 0x7FFF := by decide

theorem witness_FrameRoundTrip :
    ([0x0203] : List Word)[0]? = some 0x0203 ∧ (frameBytes [0x0203])[4]? = some 0x03 ∧
    (frameBytes [0x0203])[5]? = some 0x02 := by decide

/-- FB3: the window at the sentinel and the one after it. -/
theorem witness_SentinelWindows :
    (∀ v ∈ ([0x00FF, 0x7FFF, 0x7F80] : List Word), v.toNat ≤ 0x7FFF) ∧ ([0x00FF, 0x7FFF, 0x7F80] : List Word) ≠ [] ∧
    ([0x0A] : List Byte).getLast? ≠ some 0xFF#8 ∧
    ((([0x0A] ++ frameBytes [0x00FF, 0x7FFF, 0x7F80] ++ [0xFF]).drop 1).take 4 = [0xFF#8, 0xFF#8, 0xFF#8, 0xFF#8]) ∧
    ((([0x0A] ++ frameBytes [0x00FF, 0x7FFF, 0x7F80] ++ [0xFF]).drop 2).take 4 = [0xFF#8, 0xFF#8, 0xFF#8, 0xFF#8]) :=
  ⟨by simp, by decide, by decide, by decide, by decide⟩

theorem witness_EmitRule :
    (live.encBusy = true ∧ live.txReady = true) ∧ ((sending 3).encPos < 4 ∧ (sending 0).encPos < 4) ∧
    (4 ≤ (sending 4).encPos ∧ ((sending 4).encPos - 4) % 2 = 0 ∧ ((sending 4).encPos - 4) / 2 < (sending 4).params.bufferSize) ∧
    (4 ≤ (sending 9).encPos ∧ ((sending 9).encPos - 4) % 2 = 1 ∧ (sending 9).encPos + 1 = 4 + 2 * (sending 9).encLen) ∧
    (six 0).encBusy = false ∧ ({ live with txReady := false } : State).txReady = false := by decide

/-- byte 2052 is the low byte of word 1024 = B -/
theorem witness_EncoderStops :
    ({ sending 2052 with encLen := 1025 } : State).encBusy = true ∧ (sending 2052).txReady = true ∧
    ((sending 2052).encPos - 4) % 2 = 0 ∧ (sending 2052).params.bufferSize ≤ ((sending 2052).encPos - 4) / 2 ∧
    2052 < 4 + 2 * ({ sending 2052 with encLen := 1025 } : State).encLen := by decide

/-- EM4: the group rewrites the word whose low byte has just been sent. -/
theorem witness_SampleBytesComeFromOneRead :
    ∃ t u v, exec .emit { sending 4 with active := .zero } = .next t ∧ exec (.tick [0x0999, 2, 3] 0) t = .next u ∧
      exec .emit u = .next v ∧ v.linkOut = [0x03, 0x02] := ⟨_, _, _, rfl, rfl, rfl, rfl⟩

theorem witness_DataFrameSendsFrameBytes :
    (live.encBusy = true ∧ live.txReady = true ∧ live.encLen ≤ live.params.bufferSize) ∧
    live.encPos < 4 + 2 * live.encLen ∧ (sending 0).encPos < 4 + 2 * (sending 0).encLen ∧
    (sending 9).encPos < 4 + 2 * (sending 9).encLen ∧
    (six 0).encBusy = false ∧ ({ live with txReady := false } : State).txReady = false := by decide

theorem witness_SlotMemoryFrame :
    (∃ t, exec .emit live = .next t) ∧ ∃ t, exec (.append [1, 2, 3]) (six 3) = .next t := ⟨⟨_, rfl⟩, ⟨_, rfl⟩⟩

theorem witness_ControlFrame :
    (∃ t, exec .resetCmd live = .next t) ∧ (∃ t, exec .configCmd live = .next t) ∧
    (∃ t, exec (.payloadByte 0x35) (lastByte 6 10) = .next t) ∧ (∃ t, exec (.ignoredByte 0x35) live = .next t) ∧
    (∃ t, exec (.rxByte 0x35) live = .next t) ∧ (∃ t, exec (.configure .malformed) live = .next t ∧ t.phase = .idle) ∧
    ∃ t, exec .reset live = .next t :=
  ⟨⟨_, rfl⟩, ⟨_, rfl⟩, ⟨_, rfl⟩, ⟨_, rfl⟩, ⟨_, rfl⟩, ⟨_, rfl, rfl⟩, ⟨_, rfl⟩⟩

theorem witness_SamplerFrame :
    (∃ t, exec (.append [1, 2, 3]) (six 0) = .next t) ∧ ∃ t, exec (.tick [1, 2, 3] 9) (six 3) = .next t :=
  ⟨⟨_, rfl⟩, ⟨_, rfl⟩⟩

theorem witness_DrainFrame :
    (∃ t, exec .take { six 0 with ready := true } = .next t) ∧ (∃ t, exec .emit live = .next t) ∧
    (∃ t, exec .dataFrame live = .next t) ∧ ∃ t, exec .ackLine live = .next t :=
  ⟨⟨_, rfl⟩, ⟨_, rfl⟩, ⟨_, rfl⟩, ⟨_, rfl⟩⟩

theorem witness_MemoryStaysCanonical :
    (∃ t, exec (.append [1, 2, 3]) { live with encBusy := false } = .next t) ∧ Memory.wf live.slots :=
  ⟨⟨_, rfl⟩, by decide⟩

theorem witness_ParametersAreFixed : ∃ t, step live = .next t := live_runs
theorem witness_LinkOutOnlyGrows : ∃ t, step live = .next t := live_runs
theorem witness_StepKeepsInvariant : Inv live ∧ ∃ t, step live = .next t := ⟨live_inv, live_runs⟩

/-- The state after power-on is reachable, and so is the one after a host byte. -/
theorem witness_ReachableStatesMeetR61 :
    Reachable State.reset ∧ Reachable { State.reset with rxMode := .payload } :=
  ⟨⟨Params.default, [], 0, by decide, rfl⟩, ⟨Params.default, [.rx 0x54], 1, by decide, rfl⟩⟩

theorem witness_ReachableStreamMeetsR222 : Reachable State.reset := ⟨Params.default, [], 0, by decide, rfl⟩

theorem witness_StepNeverFaults : Inv live := live_inv

/-- The slot being sent is the active one: its word 0 is rewritten and has been read. -/
def lapped : State := { six 3 with encBusy := true, encLen := 6, encPos := 9, sched := [.tick [1, 2, 3] 0] }

theorem lapped_inv : Inv lapped := by
  constructor
  · constructor <;> decide
  all_goals decide

theorem witness_StepKeepsFrameUnmixed : Inv lapped ∧ Unmixed lapped ∧ ∃ t, step lapped = .next t := by
  refine ⟨lapped_inv, fun _ _ _ i hi _ => ?_, ⟨_, rfl⟩⟩
  have : i < 3 := hi
  change 4 + 2 * i < 9
  omega

/-- The slot being sent is not the active one, and the next group completes a frame in the active one. -/
def overtaken : State :=
  { six 3 with active := .one, encBusy := true, encLen := 6, encPos := 0, sched := [.tick [1, 2, 3] 0] }

theorem witness_BusySlotNeverActiveWithoutOverrun :
    Inv overtaken ∧ (overtaken.encBusy = true → overtaken.encSlot ≠ overtaken.active) ∧ overtaken.ovr = false ∧
    (nextOf (step overtaken)).map (fun t => (t.ovr, t.encBusy)) = some (false, true) := by
  refine ⟨?_, by decide, rfl, by decide⟩
  constructor
  · constructor <;> decide
  all_goals decide

theorem witness_SlotExclusivityEndsOnlyAtASwap :
    Inv overtaken ∧ (overtaken.encBusy = true → overtaken.encSlot ≠ overtaken.active) ∧
    (nextOf (step overtaken)).map (fun t => (t.encBusy, t.encSlot, t.active)) = some (true, .zero, .zero) :=
  ⟨witness_BusySlotNeverActiveWithoutOverrun.1, by decide, by decide⟩

theorem witness_AckIsFirstAfterConfiguration :
    incoming (lastByte 6 10) = some 0x30 ∧ completesPayload 0x30 (lastByte 6 10) = true ∧
    (nextOf (step (lastByte 6 10))).map (fun t => t.phase) = some .acquiring := by decide

theorem live_grammar : LinkGrammar live :=
  ⟨[.ack 0 5 3], some ⟨0, 5, 3⟩, by decide, fun _ => rfl, by
    rw [if_pos (show live.encBusy = true from rfl)]
    exact ⟨[0x0203, 0x7FFF, 0x0102], rfl, by decide⟩⟩

theorem witness_StepKeepsLinkGrammar : Inv live ∧ LinkGrammar live ∧ ∃ t, step live = .next t :=
  ⟨live_inv, live_grammar, live_runs⟩

/-- A state that differs from `live` in the slot words already sent, the payload bytes, EPOCH, TS and TPREV. -/
def live' : State :=
  { live with
      slots := [(0, 0x55), (1, 0x66), (2, 0xFF), (3, 0x7F), (4, 0x02), (5, 0x01)]
      rxBuf := ps3, epoch := 7, ts := 8, tprev := 9 }

theorem witness_UnspecifiedContentsAreUnobservable :
    Inv live ∧ Indist live live' ∧ live ≠ live' ∧ ∃ t, step live = .next t := by
  refine ⟨live_inv, ?_, by decide, live_runs⟩
  constructor
  case written => exact fun i hi => absurd hi (Nat.not_lt_zero i)
  case unsent =>
    intro _ i hi hp
    have h3 : i < 3 := hi
    have h5 : 5 ≤ 4 + 2 * i := hp
    have : i = 1 ∨ i = 2 := by omega
    rcases this with rfl | rfl <;> rfl
  all_goals decide

/-- P1 without its ack: one tick a frame. -/
theorem witness_TickedSamplesReachTheLink :
    Inv { six 0 with sched := [] } ∧ (six 0).cursor = 0 ∧ (six 0).ready = false ∧ (six 0).encBusy = false ∧
    (∀ g ∈ ([([1, 2, 3], 100), ([4, 5, 6], 200)] : List (List Word × Time)), g.1.length = (six 0).params.channels) ∧
    2 * (six 0).params.channels = (six 0).osize := by
  refine ⟨?_, rfl, rfl, rfl, by decide, by decide⟩
  constructor
  · constructor <;> decide
  all_goals decide

/-- PERIOD is 100000 cycles at 10 Hz: the count before the wrap, and the wrap; and a 14th payload byte while Acquiring and, as at
the ordinary start of the timer, while Idle. -/
theorem witness_TimerTicksEveryPeriod :
    (six 0).txReady = false ∧ (six 0).timeNow = 0 ∧ (six 0).phase = .acquiring ∧
    (six 0).tmrCnt + 0 < timerPeriod (six 0).params (six 0).freq.toNat ∧
    (six 0).tmrCnt + 99999 < timerPeriod (six 0).params (six 0).freq.toNat ∧
    ({ six 0 with tmrCnt := 99999 } : State).tmrCnt + 1 = timerPeriod (six 0).params (six 0).freq.toNat ∧
    completesPayload 0x35 { six 0 with rxMode := .payload, rxCnt := 13 } = true ∧
    (lastByte 6 10).phase = .idle ∧ completesPayload 0x30 (lastByte 6 10) = true := by
  decide

theorem witness_ClockCycleRefinesEvents :
    ∃ t, clockCycle ⟨some 0x30, [1, 2, 3], 7, true, true⟩ { six 3 with tmrCnt := 99999 } = .next t := ⟨_, rfl⟩

theorem witness_ResetWinsItsCycle : (CycleInputs.mk (some 0x52#8) [1, 2, 3] 7 true true).rx = some 0x52#8 := rfl

end Sys2Proof.Tests
end

section
/-! SUPPORT. The build-time parameters through every operation, and what an event runs by its decoding; with them the
statements of 00_scope.md. -/

namespace Sys2Proof.Machine

/-! ## No operation changes the parameters (R6, R7, R8, R11) -/

@[simp] theorem resetBlock_params (s : State) : (resetBlock s).params = s.params := rfl

@[simp] theorem startAcquiring_params (e : BitVec 64) (f : BitVec 10) (s : State) :
    (startAcquiring e f s).params = s.params := rfl

@[simp] theorem finishAppend_params (s : State) : (finishAppend s).params = s.params := by
  unfold finishAppend
  split <;> simp

@[simp] theorem configureWith_params (r : ParseResult) (s : State) : (configureWith r s).params = s.params := by
  rcases configureWith_cases r s with ⟨_, h⟩ | ⟨_, _, h⟩ | ⟨_, _, h⟩ | ⟨_, _, _, _, _, _, h⟩ <;> simp [h]

@[simp] theorem receiveByte_params (b : Byte) (s : State) : (receiveByte b s).params = s.params := by
  rcases receiveByte_cases b s with ⟨_, h⟩ | ⟨_, _, h⟩ | ⟨_, _, h⟩ | ⟨_, _, _, _, _, h⟩ | ⟨_, _, _, _, _, h⟩ <;> simp [h]

theorem execTick_params {g : List Word} {u : Time} {s t : State} (h : execTick g u s = .next t) :
    t.params = s.params := by
  obtain ⟨_, ha⟩ := execTick_next h
  obtain ⟨_, _, _, rfl⟩ := appendGroup_cases ha
  simp

theorem execTake_params {s t : State} (h : execTake s = .next t) : t.params = s.params := by
  obtain ⟨_, _, rfl⟩ := execTake_next h
  simp

theorem execEmit_params {s t : State} (h : execEmit s = .next t) : t.params = s.params := by
  obtain ⟨_, _, hb⟩ := execEmit_next h
  obtain ⟨_, _, rfl, _⟩ := emitByte_cases hb
  simp

theorem Micro.params_eq {s t : State} (h : Micro s t) : t.params = s.params := by
  cases h with
  | env => rfl
  | count => rfl
  | receive b => exact receiveByte_params b s
  | tick g u h => exact execTick_params h
  | take h => exact execTake_params h
  | emit h => exact execEmit_params h

theorem step_params {s t : State} (h : step s = .next t) : t.params = s.params :=
  step_keeps (P := fun u => u.params = s.params) (fun _ _ hm hu => hm.params_eq.trans hu) h rfl

/-- Settles O43: every micro step keeps the parameters, and a step is a chain of them. -/
theorem parametersAreFixed : Obligations.ParametersAreFixed := fun _ _ => step_params

/-! ## What an event runs, by its decoding (R102) -/

theorem runEvent_of_decodes {e : Event} {i : Instr} {s : State} (h : decodeEvent s.rxMode s.fatal e = some i) :
    runEvent e s = exec i (driveEvent e s) := by
  rw [← runFetched_fetchEvent]
  cases e with
  | cycle c => cases h
  | _ => simp [fetchEvent, h, runFetched]

/-- Only `now` and a clock cycle decode to no operation. -/
theorem runEvent_of_not_decodes {e : Event} {s : State} (h : decodeEvent s.rxMode s.fatal e = none)
    (hc : ∀ c, e ≠ .cycle c) : runEvent e s = .next (driveEvent e s) := by
  cases e with
  | now u => rfl
  | cycle c => exact absurd rfl (hc c)
  | _ => cases h

/-- A free draw is an event of one agent, never a whole clock cycle (V7, log 7). -/
theorem drawEvent_ne_cycle (p : Params) (n : Nat) (c : CycleInputs) : drawEvent p n ≠ .cycle c := by
  unfold drawEvent
  split <;> simp

/-- Settles O7: a drawn event is no clock cycle, so it runs its operation or, decoding to none, only drives its input. -/
theorem stepRunsFreeDraw : Obligations.StepRunsFreeDraw := by
  intro s hs e s'
  rw [step_free hs]
  congr 1
  split
  · exact runEvent_of_decodes ‹_›
  · exact runEvent_of_not_decodes ‹_› (drawEvent_ne_cycle _ _)

end Sys2Proof.Machine
end

section
/-! SUPPORT. The invariant of R61 through every operation, one lemma an operation, and what follows from it: every step keeps it,
every reachable state meets R61, and no step faults. -/

namespace Sys2Proof.Machine

/-! ## Power-on -/

/-- Settles O2: after power-on every counter is 0 and the block is `Idle`, so each clause is vacuous or about 0. -/
theorem powerOnMeetsInvariant : Obligations.PowerOnMeetsInvariant := by
  intro p es hp
  constructor
  case toMeetsR61 => constructor <;> simp [State.powerOn]
  case params_wf => exact hp
  all_goals simp [State.powerOn]

/-! ## Operand bounds -/

theorem le_outputSize (p : Params) (f : Nat) : p.channels ≤ outputSize p f := Nat.le_max_left _ _

/-- The output size is a whole number of groups (R183). -/
theorem outputSize_mod_channels (p : Params) (f : Nat) : outputSize p f % p.channels = 0 := by
  unfold outputSize
  rcases Nat.le_total p.channels (f * p.spNum / p.spDen * p.channels) with h | h
  · simp [Nat.max_eq_right h]
  · simp [Nat.max_eq_left h]

/-- A legal frequency has a period of at least one timer clock cycle (R144). -/
theorem timerPeriod_pos {p : Params} {f : BitVec 10} (hp : p.wf = true) (h0 : f ≠ 0) (hf : f.toNat ≤ 999) :
    0 < timerPeriod p f.toNat := by
  have hclk := (params_of_wf hp).2.2.2
  have hpos : f.toNat ≠ 0 := fun h => h0 (BitVec.eq_of_toNat_eq h)
  exact Nat.div_pos (by omega) (by omega)

/-! ## Which operations are enabled (R123, R145, R163) -/

theorem tickEnabled_iff {s : State} : tickEnabled s = true ↔ s.phase = .acquiring := by simp [tickEnabled]

theorem takeEnabled_iff {s : State} : takeEnabled s = true ↔ s.ready = true ∧ s.encBusy = false := by
  simp [takeEnabled]

theorem emitEnabled_iff {s : State} : emitEnabled s = true ↔ s.encBusy = true ∧ s.txReady = true := by
  simp [emitEnabled]

/-! ## Where the pipeline is in use -/

theorem acquiring_of_not_idle {s : State} (h : s.phase ≠ .idle) : s.phase = .acquiring := by
  cases hp : s.phase
  · exact absurd hp h
  · rfl

/-- The encoder is busy only while `Acquiring` (R61 (iii)). -/
theorem Inv.acquiring_of_busy {s : State} (hs : Inv s) (hb : s.encBusy = true) : s.phase = .acquiring := by
  refine acquiring_of_not_idle fun hi => ?_
  obtain ⟨_, _, hnb, _⟩ := hs.idle hi
  simp [hb] at hnb

/-- A frame is ready only while `Acquiring` (R61 (iii)). -/
theorem Inv.acquiring_of_ready {s : State} (hs : Inv s) (hr : s.ready = true) : s.phase = .acquiring := by
  refine acquiring_of_not_idle fun hi => ?_
  obtain ⟨_, hnr, _, _⟩ := hs.idle hi
  simp [hr] at hnr

/-- A whole group fits into the slot behind the cursor (R61 (i), (ii)). -/
theorem group_fits_slot {s : State} (hs : Inv s) (ha : s.phase = .acquiring) :
    s.cursor + s.params.channels ≤ s.params.bufferSize := by
  obtain ⟨_, hB, _⟩ := hs.acquiring ha
  exact (group_fits hs ha).trans hB

/-! ## Inputs and timer -/

theorem inv_env {s : State} (hs : Inv s) (es : List Event) (n : Nat) (now : Time) (tx : Bool) :
    Inv { s with sched := es, draws := n, timeNow := now, txReady := tx } := { hs with }

theorem inv_count {s : State} (hs : Inv s) {n : Nat} (ha : s.phase = .acquiring)
    (hn : n < timerPeriod s.params s.freq.toNat) : Inv { s with tmrCnt := n } :=
  { hs with
    timer := fun _ => hn
    timer_idle := fun hi => by simp [ha] at hi }

/-! ## Control unit and receiver -/

theorem inv_pipelineClear {s : State} (hs : Inv s) : Inv (pipelineClear s) :=
  { hs with
    cursor_mod := Nat.zero_mod _
    acquiring := by simp
    idle := by simp
    busy := by simp
    fatal := by simp
    configured := by simp
    timer := by simp
    timer_idle := by simp
    active_idle := by simp
    pos_idle := by simp }

theorem inv_perr {s : State} (hs : Inv s) (e : Bool) : Inv { s with perr := e } := { hs with }

/-- FATAL may be set only where the block is `Idle` (R61 (v)). -/
theorem inv_fatal {s : State} (hs : Inv s) (hi : s.phase = .idle) : Inv { s with fatal := true } :=
  { hs with
    acquiring := fun ha => by simp [hi] at ha
    fatal := fun _ => hi }

theorem inv_clearFlags {s : State} (hs : Inv s) : Inv (clearFlags s) :=
  { hs with
    acquiring := fun ha => by
      obtain ⟨hC, hB, hmod, hlt, _⟩ := hs.acquiring ha
      exact ⟨hC, hB, hmod, hlt, rfl⟩
    fatal := by simp }

theorem inv_receiverToCmd {s : State} (hs : Inv s) : Inv (receiverToCmd s) := { hs with cmd := fun _ => rfl }

theorem inv_startPayload {s : State} (hs : Inv s) : Inv (startPayload s) := { hs with cmd := fun _ => rfl }

theorem inv_storePayload {s : State} (hs : Inv s) (b : Byte) : Inv (storePayload b s) := { hs with }

theorem inv_rxCnt {s : State} (hs : Inv s) (hm : s.rxMode = .payload) (n : Fin 14) : Inv { s with rxCnt := n } :=
  { hs with cmd := fun hc => by simp [hm] at hc }

theorem inv_resetBlock {s : State} (hs : Inv s) : Inv (resetBlock s) :=
  inv_receiverToCmd (inv_clearFlags (inv_pipelineClear hs))

/-- CONFIGURE's success branch, from a cleared pipeline (R185). -/
theorem inv_startAcquiring {s : State} (hs : Inv s) (hi : s.phase = .idle) (hfat : s.fatal = false) {e : BitVec 64}
    {f : BitVec 10} (h0 : f ≠ 0) (he : e.toNat ≤ 9999999999) (hf : f.toNat ≤ 999)
    (hB : outputSize s.params f.toNat ≤ s.params.bufferSize) : Inv (startAcquiring e f s) := by
  obtain ⟨hcur, _, hbusy, _⟩ := hs.idle hi
  have hC : 1 ≤ s.params.channels := (params_of_wf hs.params_wf).1
  have hos := le_outputSize s.params f.toNat
  exact
    { hs with
      acquiring := fun _ => ⟨hos, hB, outputSize_mod_channels _ _,
        show s.cursor < outputSize s.params f.toNat by omega, hfat⟩
      idle := fun h => by cases h
      busy := fun hb => by cases hbusy.symm.trans hb
      fatal := fun hft => by cases hfat.symm.trans hft
      freq_le := hf
      epoch_le := he
      configured := fun _ => ⟨h0, rfl⟩
      timer := fun _ => timerPeriod_pos hs.params_wf h0 hf
      timer_idle := fun _ => rfl
      active_idle := fun h => by cases h }

theorem inv_configureWith {s : State} (hs : Inv s) (b : Vector Byte 14) : Inv (configureWith (parse b) s) := by
  have hc := inv_pipelineClear hs
  rcases configureWith_cases (parse b) s with
    ⟨_, h⟩ | ⟨_, _, h⟩ | ⟨_, _, h⟩ | ⟨hfat, e, f, hok, h0, hB, h⟩ <;> rw [h]
  case inl => exact hs
  case inr.inl => exact inv_perr hc true
  case inr.inr.inl => exact inv_fatal (inv_perr hc false) rfl
  case inr.inr.inr =>
    obtain ⟨he, hf⟩ := parse_bounds hok
    exact inv_startAcquiring (inv_perr hc false) rfl hfat h0 he hf hB

theorem inv_receiveByte {s : State} (hs : Inv s) (b : Byte) : Inv (receiveByte b s) := by
  rcases receiveByte_cases b s with
    ⟨_, h⟩ | ⟨_, _, h⟩ | ⟨_, _, h⟩ | ⟨_, _, _, hm, _, h⟩ | ⟨_, _, _, _, _, h⟩ <;> rw [h]
  case inl => exact inv_resetBlock hs
  case inr.inl => exact hs
  case inr.inr.inl => exact inv_startPayload hs
  case inr.inr.inr.inl => exact inv_rxCnt (inv_storePayload hs b) hm _
  case inr.inr.inr.inr => exact inv_configureWith (inv_receiverToCmd (inv_storePayload hs b)) _

/-! ## Sampler -/

theorem inv_ovr {s : State} (hs : Inv s) (o : Bool) : Inv { s with ovr := o } := { hs with }

theorem inv_noteBoundary {s : State} (hs : Inv s) (t : Time) : Inv (noteBoundary t s) := by
  unfold noteBoundary
  split
  · exact { hs with }
  · exact hs

theorem inv_storeGroup {s : State} (hs : Inv s) (k : Slot) (g : List Word) (i : Nat)
    (hi : i + g.length ≤ s.params.bufferSize) : Inv { s with slots := storeGroup s.params k g i s.slots } :=
  { hs with
    memory_wf := wf_storeGroup _ _ _ _ hs.memory_wf
    memory_range := range_storeGroup _ _ _ hi hs.memory_range }

theorem inv_swapSlots {s : State} (hs : Inv s) (ha : s.phase = .acquiring) : Inv (swapSlots s) :=
  { hs with
    cursor_mod := Nat.zero_mod _
    acquiring := fun _ => by
      obtain ⟨hC, hB, hmod, hlt, hfat⟩ := hs.acquiring ha
      exact ⟨hC, hB, hmod, Nat.zero_lt_of_lt hlt, hfat⟩
    idle := fun hi => by cases ha.symm.trans hi
    active_idle := fun hi => by cases ha.symm.trans hi }

/-- The end of APPEND: the cursor stays on a group boundary and inside the frame (R61 (i), (ii)). -/
theorem inv_finishAppend {s : State} (hs : Inv s) (ha : s.phase = .acquiring) : Inv (finishAppend s) := by
  unfold finishAppend
  split
  · rw [noteDrop_eq]
    exact inv_swapSlots (inv_ovr hs _) ha
  · rename_i hne
    have hfit := group_fits hs ha
    exact
      { hs with
        cursor_mod := by simpa using hs.cursor_mod
        acquiring := fun _ => by
          obtain ⟨hC, hB, hmod, _, hfat⟩ := hs.acquiring ha
          exact ⟨hC, hB, hmod, show s.cursor + s.params.channels < s.osize by omega, hfat⟩
        idle := fun hi => by cases ha.symm.trans hi }

theorem inv_appendGroup {g : List Word} {s t : State} (hs : Inv s) (ha : s.phase = .acquiring)
    (h : appendGroup g s = .next t) : Inv t := by
  obtain ⟨hg, _, _, rfl⟩ := appendGroup_cases h
  have hfit := group_fits_slot hs ha
  exact inv_finishAppend (inv_ovr (inv_storeGroup hs s.active g s.cursor (by omega)) _) ha

theorem inv_execTick {g : List Word} {u : Time} {s t : State} (hs : Inv s) (h : execTick g u s = .next t) : Inv t := by
  obtain ⟨ha, happ⟩ := execTick_next h
  exact inv_appendGroup (inv_noteBoundary hs u) (by simpa using ha) happ

/-! ## Drain engine -/

theorem inv_execTake {s t : State} (hs : Inv s) (h : execTake s = .next t) : Inv t := by
  obtain ⟨hr, _, rfl⟩ := execTake_next h
  have ha := hs.acquiring_of_ready hr
  exact
    { hs with
      idle := fun hi => by cases ha.symm.trans hi
      busy := fun _ => ⟨rfl, by simp⟩
      pos_idle := fun _ => rfl }

/-- The end of an EMIT: the position stays inside the frame, or the frame ends (R61 (iv)). -/
theorem inv_advanceEncoder {s : State} (hs : Inv s) (hb : s.encBusy = true) : Inv (advanceEncoder s) := by
  have ha := hs.acquiring_of_busy hb
  unfold advanceEncoder
  split
  · exact
      { hs with
        idle := fun hi => by cases ha.symm.trans hi
        busy := fun h => by cases h
        pos_idle := fun _ => rfl }
  · obtain ⟨hlen, hpos⟩ := hs.busy hb
    exact
      { hs with
        busy := fun _ => ⟨hlen, show s.encPos + 1 < 4 + 2 * s.encLen by omega⟩
        pos_idle := fun h => by cases hb.symm.trans h }

theorem inv_sent {s : State} (hs : Inv s) (l : List Byte) (hi : Byte) : Inv { s with linkOut := l, encHi := hi } :=
  { hs with }

theorem inv_execEmit {s t : State} (hs : Inv s) (h : execEmit s = .next t) : Inv t := by
  obtain ⟨hb, _, hbyte⟩ := execEmit_next h
  obtain ⟨b, hi, rfl, _⟩ := emitByte_cases hbyte
  exact inv_advanceEncoder (inv_sent hs _ hi) hb

/-! ## Steps -/

theorem Micro.inv {s t : State} (h : Micro s t) (hs : Inv s) : Inv t := by
  cases h with
  | env es n now tx => exact inv_env hs es n now tx
  | count n ha hn => exact inv_count hs ha hn
  | receive b => exact inv_receiveByte hs b
  | tick g u h => exact inv_execTick hs h
  | take h => exact inv_execTake hs h
  | emit h => exact inv_execEmit hs h

theorem Micros.inv {s t : State} (h : Micros s t) (hs : Inv s) : Inv t := by
  induction h with
  | refl => exact hs
  | tail _ hm ih => exact hm.inv ih

/-- Settles O45: a step is a chain of micro steps, and each of them keeps the invariant. -/
theorem stepKeepsInvariant : Obligations.StepKeepsInvariant := fun _ _ hs h => Micros.inv (step_micros h) hs

/-- Settles O46: the invariant holds after power-on (O2), every step keeps it (O45), and it contains R61. -/
theorem reachableStatesMeetR61 : Obligations.ReachableStatesMeetR61 := fun _ h =>
  (reachable_induction powerOnMeetsInvariant stepKeepsInvariant h).toMeetsR61

/-! ## No operation faults on an invariant state (X1, X2) -/

theorem execTick_ne_fault {g : List Word} {u : Time} {s : State} (hs : Inv s) (r : Fault) :
    execTick g u s ≠ .fault r := by
  intro h
  unfold execTick at h
  split at h
  · rename_i hen
    have ha : (noteBoundary u s).phase = .acquiring := by simpa using tickEnabled_iff.1 hen
    have hsb := inv_noteBoundary hs u
    by_cases hg : g.length = (noteBoundary u s).params.channels
    · rw [appendGroup_eq g _ hg (group_fits hsb ha) (group_fits_slot hsb ha)] at h
      cases h
    · rw [appendGroup, if_pos hg] at h
      cases h
  · cases h

theorem execTake_ne_fault (s : State) (r : Fault) : execTake s ≠ .fault r := by
  unfold execTake
  split <;> simp

/-- The word of the position being sent lies below OSIZE, so below `B` (R61 (ii), (iv)). -/
theorem execEmit_ne_fault {s : State} (hs : Inv s) (r : Fault) : execEmit s ≠ .fault r := by
  unfold execEmit
  split
  · rename_i hen
    obtain ⟨hb, _⟩ := emitEnabled_iff.1 hen
    obtain ⟨hlen, hpos⟩ := hs.busy hb
    obtain ⟨_, hB, _⟩ := hs.acquiring (hs.acquiring_of_busy hb)
    have hidx : 4 ≤ s.encPos → (s.encPos - 4) / 2 < s.params.bufferSize := by omega
    unfold emitByte
    split
    · simp
    · rw [slotRead, if_pos (hidx (by omega))]
      split <;> simp
  · simp

/-- The timer's period is not 0 while it runs (X2), since it exceeds TMR_CNT. -/
theorem cycleTimer_ne_fault {b : Bool} {c : CycleInputs} {s : State} (hs : Inv s) (r : Fault) :
    cycleTimer b c s ≠ .fault r := by
  unfold cycleTimer
  split
  · rename_i hen
    have ha := tickEnabled_iff.1 (Bool.and_elim_left hen)
    have hper := hs.timer ha
    rw [timerCount, if_neg (by omega)]
    split
    · simp
    · exact execTick_ne_fault (inv_count hs ha (by omega)) r
  · simp

theorem cycleTake_ne_fault (c : CycleInputs) (s : State) (r : Fault) : cycleTake c s ≠ .fault r := by
  unfold cycleTake
  split
  · exact execTake_ne_fault s r
  · simp

theorem cycleEmit_ne_fault {s : State} (hs : Inv s) (r : Fault) : cycleEmit s ≠ .fault r := by
  unfold cycleEmit
  split
  · exact execEmit_ne_fault hs r
  · simp

theorem inv_driveInputs {s : State} (hs : Inv s) (c : CycleInputs) : Inv (driveInputs c s) :=
  inv_env hs s.sched s.draws c.time c.txReady

theorem clockCycle_ne_fault {c : CycleInputs} {s : State} (hs : Inv s) (r : Fault) : clockCycle c s ≠ .fault r := by
  intro h
  have hrecv := (cycleReceive_micros c _).inv (inv_driveInputs hs c)
  rw [clockCycle, andThen_eq_fault] at h
  rcases h with h | ⟨u, hu, h⟩
  · exact cycleTimer_ne_fault hrecv r h
  · have hsu := (cycleTimer_micros hu).inv hrecv
    rcases andThen_eq_fault.1 h with h | ⟨v, hv, h⟩
    · exact cycleTake_ne_fault c u r h
    · exact cycleEmit_ne_fault ((cycleTake_micros hv).inv hsu) r h

theorem runEvent_ne_fault {e : Event} {s : State} (hs : Inv s) (r : Fault) : runEvent e s ≠ .fault r := by
  cases e with
  | rx b => simp [runEvent]
  | tick g u => exact execTick_ne_fault hs r
  | take => exact execTake_ne_fault s r
  | emit => exact execEmit_ne_fault (inv_env hs s.sched s.draws s.timeNow true) r
  | now u => simp [runEvent]
  | cycle c => exact clockCycle_ne_fault hs r

/-- Settles O47: a fault of a step is one of its event, and under the invariant no event faults. -/
theorem stepNeverFaults : Obligations.StepNeverFaults := by
  intro s r hs h
  obtain ⟨es, n, h⟩ := step_fault_cases h
  exact runEvent_ne_fault (inv_env hs es n s.timeNow s.txReady) r h

end Sys2Proof.Machine
end

section
/-! SUPPORT. A step as the arrival of its host byte followed by the moves of the other agents, and what it says of the error flags,
the timestamp and the link; with them the status outputs and where the sampler stops. -/

namespace Sys2Proof.Machine

/-! ## The receiver's branches, by what they write -/

/-- RX_BYTE is RESET, or CONFIGURE at the 14th payload byte, or a move of the receiver alone (R211). -/
theorem receiveByte_moves (b : Byte) (s : State) :
    (b = codeR ∧ receiveByte b s = resetBlock s) ∨
    (completesPayload b s = true ∧
      receiveByte b s = configureWith (parse (storePayload b s).rxBuf) (receiverToCmd (storePayload b s))) ∨
    (completesPayload b s = false ∧
      ∃ m n buf, receiveByte b s = { s with rxMode := m, rxCnt := n, rxBuf := buf }) := by
  have hno : completesPayload b s = false ↔ ¬ completesPayload b s = true := by simp
  rw [hno, completesPayload_iff]
  rcases receiveByte_cases b s with
    ⟨hR, h⟩ | ⟨_, hign, h⟩ | ⟨hT, _, h⟩ | ⟨_, _, _, _, hcnt, h⟩ | ⟨hR, hT, hfat, hm, hcnt, h⟩
  case inl => exact .inl ⟨hR, h⟩
  case inr.inl =>
    refine .inr (.inr ⟨fun ⟨_, hfat, _, hm, _⟩ => ?_, _, _, _, h⟩)
    rcases hign with hf | ⟨_, hc⟩
    · cases hf.symm.trans hfat
    · cases hc.symm.trans hm
  case inr.inr.inl => exact .inr (.inr ⟨fun ⟨_, _, hnT, _⟩ => hnT hT, _, _, _, h⟩)
  case inr.inr.inr.inl => exact .inr (.inr ⟨fun ⟨_, _, _, _, h13⟩ => hcnt h13, _, _, _, h⟩)
  case inr.inr.inr.inr => exact .inr (.inl ⟨⟨hR, hfat, hT, hm, hcnt⟩, h⟩)

theorem not_fatal_of_completesPayload {b : Byte} {s : State} (h : completesPayload b s = true) : s.fatal = false :=
  ((completesPayload_iff b s).1 h).2.1

/-- CONFIGURE leaves the pipeline empty, whatever it answers (R185, R187). -/
theorem configureWith_pipeline (r : ParseResult) {s : State} (hf : s.fatal = false) :
    (configureWith r s).ready = false ∧ (configureWith r s).encBusy = false := by
  rcases configureWith_cases r s with ⟨hft, _⟩ | ⟨_, _, h⟩ | ⟨_, _, h⟩ | ⟨_, _, _, _, _, _, h⟩
  · cases hf.symm.trans hft
  all_goals rw [h]; exact ⟨rfl, rfl⟩

@[simp] theorem configureWith_ovr (r : ParseResult) (s : State) : (configureWith r s).ovr = s.ovr := by
  rcases configureWith_cases r s with ⟨_, h⟩ | ⟨_, _, h⟩ | ⟨_, _, h⟩ | ⟨_, _, _, _, _, _, h⟩ <;> rw [h] <;> rfl

/-- CONFIGURE keeps TS and TPREV, or starts the timestamp at TIME_NOW (R46, R185). -/
theorem configureWith_time (r : ParseResult) (s : State) :
    ((configureWith r s).ts = s.ts ∧ (configureWith r s).tprev = s.tprev) ∨
    ((configureWith r s).ts = 0 ∧ (configureWith r s).tprev = (configureWith r s).timeNow ∧
      (configureWith r s).phase = .acquiring) := by
  rcases configureWith_cases r s with ⟨_, h⟩ | ⟨_, _, h⟩ | ⟨_, _, h⟩ | ⟨_, _, _, _, _, _, h⟩ <;> rw [h]
  case inr.inr.inr => exact .inr ⟨rfl, rfl, rfl⟩
  all_goals exact .inl ⟨rfl, rfl⟩

theorem configureWith_linkOut_prefix (r : ParseResult) (s : State) : s.linkOut <+: (configureWith r s).linkOut := by
  rcases configureWith_cases r s with ⟨_, h⟩ | ⟨_, _, h⟩ | ⟨_, _, h⟩ | ⟨_, _, _, _, _, _, h⟩ <;> rw [h]
  case inr.inr.inr => exact List.prefix_append _ _
  all_goals exact List.prefix_rfl

theorem receiveByte_linkOut_prefix (b : Byte) (s : State) : s.linkOut <+: (receiveByte b s).linkOut := by
  rcases receiveByte_moves b s with ⟨_, h⟩ | ⟨_, h⟩ | ⟨_, _, _, _, h⟩ <;> rw [h]
  case inr.inl => exact configureWith_linkOut_prefix _ (receiverToCmd (storePayload b s))
  all_goals exact List.prefix_rfl

/-! ## APPEND's end: the fields it leaves -/

@[simp] theorem finishAppend_fatal (s : State) : (finishAppend s).fatal = s.fatal := by
  unfold finishAppend; split <;> simp

@[simp] theorem finishAppend_perr (s : State) : (finishAppend s).perr = s.perr := by
  unfold finishAppend; split <;> simp

@[simp] theorem finishAppend_ts (s : State) : (finishAppend s).ts = s.ts := by
  unfold finishAppend; split <;> simp

@[simp] theorem finishAppend_tprev (s : State) : (finishAppend s).tprev = s.tprev := by
  unfold finishAppend; split <;> simp

@[simp] theorem finishAppend_linkOut (s : State) : (finishAppend s).linkOut = s.linkOut := by
  unfold finishAppend; split <;> simp

theorem finishAppend_ovr {s : State} (h : s.ovr = true) : (finishAppend s).ovr = true := by
  unfold finishAppend; split <;> simp [h]

/-- The boundary update moves TS and TPREV by the same time (R146). -/
theorem noteBoundary_elapsed (t : Time) (s : State) :
    (noteBoundary t s).ts - (noteBoundary t s).tprev = s.ts - s.tprev := by
  unfold noteBoundary
  split
  · simp only
    ring
  · rfl

/-! ## The agents other than the host -/

/-- `u` is `s` but for the schedule, the draw counter and the input lines. -/
def EnvMoves (s u : State) : Prop :=
  u = { s with sched := u.sched, draws := u.draws, timeNow := u.timeNow, txReady := u.txReady }

theorem EnvMoves.flags {s u : State} (h : EnvMoves s u) : u.fatal = s.fatal ∧ u.perr = s.perr ∧ u.ovr = s.ovr := by
  rw [h]
  exact ⟨rfl, rfl, rfl⟩

theorem EnvMoves.elapsed {s u : State} (h : EnvMoves s u) : u.ts - u.tprev = s.ts - s.tprev := by
  rw [h]

theorem EnvMoves.completesPayload_eq {s u : State} (h : EnvMoves s u) (b : Byte) :
    completesPayload b u = completesPayload b s := by
  rw [h]
  rfl

/-- The micro steps of the agents other than the host. -/
inductive Quiet : State → State → Prop where
  | env {s u : State} (h : EnvMoves s u) : Quiet s u
  | count (s : State) (n : Nat) : Quiet s { s with tmrCnt := n }
  | tick {s t : State} (g : List Word) (u : Time) (h : execTick g u s = .next t) : Quiet s t
  | take {s t : State} (h : execTake s = .next t) : Quiet s t
  | emit {s t : State} (h : execEmit s = .next t) : Quiet s t

/-- A chain of them. -/
abbrev Quiets : State → State → Prop := Relation.ReflTransGen Quiet

theorem cycleTimer_quiets {b : Bool} {c : CycleInputs} {s t : State} (h : cycleTimer b c s = .next t) : Quiets s t := by
  unfold cycleTimer timerCount at h
  split at h
  · split at h
    · cases h
    · split at h
      · cases h
        exact .single (.count s _)
      · exact .tail (.single (.count s 0)) (.tick _ _ h)
  · cases h
    exact .refl

theorem cycleTake_quiets {c : CycleInputs} {s t : State} (h : cycleTake c s = .next t) : Quiets s t := by
  unfold cycleTake at h
  split at h
  · exact .single (.take h)
  · cases h
    exact .refl

theorem cycleEmit_quiets {s t : State} (h : cycleEmit s = .next t) : Quiets s t := by
  unfold cycleEmit at h
  split at h
  · exact .single (.emit h)
  · cases h
    exact .refl

/-! ## A step and its host byte -/

/-- The cycle whose byte performs CONFIGURE is that byte alone: the timer restarts and the pipeline is empty (R144, R185, R248). -/
theorem clockCycle_of_completes {c : CycleInputs} {b : Byte} {s : State} (hb : c.rx = some b)
    (hc : completesPayload b s = true) : clockCycle c s = .next (receiveByte b (driveInputs c s)) := by
  have hcd : completesPayload b (driveInputs c s) = true := hc
  have hfat : (receiverToCmd (storePayload b (driveInputs c s))).fatal = false :=
    show s.fatal = false from not_fatal_of_completesPayload hc
  obtain ⟨hready, hbusy⟩ : (receiveByte b (driveInputs c s)).ready = false ∧
      (receiveByte b (driveInputs c s)).encBusy = false := by
    rcases receiveByte_moves b (driveInputs c s) with ⟨hR, _⟩ | ⟨_, h⟩ | ⟨hn, _⟩
    · exact absurd hR ((completesPayload_iff b s).1 hc).1
    · rw [h]
      exact configureWith_pipeline _ hfat
    · cases hcd.symm.trans hn
  simp [clockCycle, restartsTimer, cycleReceive, hb, hc, cycleTimer, cycleTake, takeEnabled, cycleEmit, emitEnabled,
    hready, hbusy]

/-- A step that receives no byte is a chain of the other agents' micro steps; one that receives `b` begins with RX_BYTE of `b`, and
is nothing else if `b` performs CONFIGURE. -/
theorem runEvent_parts {e : Event} {s t : State} (h : runEvent e s = .next t) :
    Quiets s t ∨
    ∃ b u, eventByte e = some b ∧ EnvMoves s u ∧ Quiets (receiveByte b u) t ∧
      (completesPayload b u = true → t = receiveByte b u) := by
  cases e with
  | rx b => cases h; exact .inr ⟨b, s, rfl, rfl, .refl, fun _ => rfl⟩
  | tick g u => exact .inl (.single (.tick g u h))
  | take => exact .inl (.single (.take h))
  | emit => exact .inl (.tail (.single (.env (u := { s with txReady := true }) rfl)) (.emit h))
  | now u => cases h; exact .inl (.single (.env rfl))
  | cycle c =>
    obtain ⟨u, v, hu, hv, ht⟩ := clockCycle_cases h
    have hrest := ((cycleTimer_quiets hu).trans (cycleTake_quiets hv)).trans (cycleEmit_quiets ht)
    cases hb : c.rx with
    | none =>
      rw [cycleReceive, hb] at hrest
      exact .inl (.head (.env (u := driveInputs c s) rfl) hrest)
    | some b =>
      rw [cycleReceive, hb] at hrest
      refine .inr ⟨b, driveInputs c s, hb, rfl, hrest, fun hc => ?_⟩
      rw [runEvent, clockCycle_of_completes hb (s := s) hc] at h
      cases h
      rfl

/-- `runEvent_parts` for a whole step, whose schedule and draw counter move on first. -/
theorem step_parts {s t : State} (h : step s = .next t) :
    Quiets s t ∨
    ∃ b u, incoming s = some b ∧ EnvMoves s u ∧ Quiets (receiveByte b u) t ∧
      (completesPayload b u = true → t = receiveByte b u) := by
  rcases step_cases h with ⟨_, rfl⟩ | ⟨es, n, h⟩
  · exact .inl (.single (.env rfl))
  · rcases runEvent_parts h with hq | ⟨b, u, hb, hu, hq, hc⟩
    · exact .inl (.head (.env (u := { s with sched := es, draws := n }) rfl) hq)
    · exact .inr ⟨b, u, hb, hu, hq, hc⟩

/-! ## The error flags (R250) -/

/-- Without a host byte FATAL and PERR stand still, and OVR is not cleared. -/
theorem Quiet.flags {s t : State} (h : Quiet s t) :
    t.fatal = s.fatal ∧ t.perr = s.perr ∧ (s.ovr = true → t.ovr = true) := by
  cases h with
  | env h =>
    obtain ⟨hf, hp, ho⟩ := h.flags
    exact ⟨hf, hp, ho.trans⟩
  | count => exact ⟨rfl, rfl, id⟩
  | tick g u h =>
    obtain ⟨_, happ⟩ := execTick_next h
    obtain ⟨_, _, _, rfl⟩ := appendGroup_cases happ
    exact ⟨by simp, by simp, fun ho => finishAppend_ovr (by simp [ho])⟩
  | take h =>
    obtain ⟨_, _, rfl⟩ := execTake_next h
    exact ⟨rfl, rfl, id⟩
  | emit h =>
    obtain ⟨_, _, hbyte⟩ := execEmit_next h
    obtain ⟨_, _, rfl, _⟩ := emitByte_cases hbyte
    simp

theorem Quiets.flags {s t : State} (h : Quiets s t) :
    t.fatal = s.fatal ∧ t.perr = s.perr ∧ (s.ovr = true → t.ovr = true) := by
  induction h with
  | refl => exact ⟨rfl, rfl, id⟩
  | tail _ hq ih =>
    obtain ⟨hf, hp, ho⟩ := ih
    obtain ⟨hf', hp', ho'⟩ := hq.flags
    exact ⟨hf'.trans hf, hp'.trans hp, fun h => ho' (ho h)⟩

/-- A byte other than `'R'` does not clear FATAL or OVR, and clears PERR only if it performs CONFIGURE. -/
theorem receiveByte_flags {b : Byte} {s : State} (hR : b ≠ codeR) :
    (s.fatal = true → (receiveByte b s).fatal = true) ∧ (receiveByte b s).ovr = s.ovr ∧
    (completesPayload b s = false → (receiveByte b s).perr = s.perr) := by
  rcases receiveByte_moves b s with ⟨h, _⟩ | ⟨hc, h⟩ | ⟨_, _, _, _, h⟩
  · exact absurd h hR
  · refine ⟨fun hf => ?_, by simp [h], fun hn => ?_⟩
    · cases (not_fatal_of_completesPayload hc).symm.trans hf
    · cases hc.symm.trans hn
  · rw [h]
    exact ⟨id, rfl, fun _ => rfl⟩

/-- Settles O23: after its host byte a step clears no flag, and a byte that clears one is `'R'` or, for PERR, performs CONFIGURE. -/
theorem errorFlagsClearedOnlyByReset : Obligations.ErrorFlagsClearedOnlyByReset := by
  intro s t h
  rcases step_parts h with hq | ⟨b, u, hb, hu, hq, _⟩
  · obtain ⟨hf, hp, ho⟩ := hq.flags
    exact ⟨fun h1 h0 => by simp [hf, h1] at h0, fun h1 h0 => by simp [ho h1] at h0, fun h1 h0 => by simp [hp, h1] at h0⟩
  · by_cases hR : b = codeR
    · subst hR
      exact ⟨fun _ _ => hb, fun _ _ => hb, fun _ _ => .inl hb⟩
    · obtain ⟨hfu, hpu, hou⟩ := hu.flags
      obtain ⟨hfr, hor, hpr⟩ := receiveByte_flags (s := u) hR
      obtain ⟨hft, hpt, hot⟩ := hq.flags
      refine ⟨fun h1 h0 => ?_, fun h1 h0 => ?_, fun h1 h0 => .inr ⟨b, hb, ?_⟩⟩
      · simp [hft, hfr (hfu.trans h1)] at h0
      · simp [hot (hor.trans (hou.trans h1))] at h0
      · rw [← hu.completesPayload_eq]
        by_contra hc
        simp [hpt, hpr (Bool.eq_false_iff.2 hc), hpu, h1] at h0

/-! ## The timestamp (R146) -/

theorem Quiet.elapsed {s t : State} (h : Quiet s t) : t.ts - t.tprev = s.ts - s.tprev := by
  cases h with
  | env h => exact h.elapsed
  | count => rfl
  | tick g u h =>
    obtain ⟨_, happ⟩ := execTick_next h
    obtain ⟨_, _, _, rfl⟩ := appendGroup_cases happ
    simpa using noteBoundary_elapsed u s
  | take h =>
    obtain ⟨_, _, rfl⟩ := execTake_next h
    rfl
  | emit h =>
    obtain ⟨_, _, hbyte⟩ := execEmit_next h
    obtain ⟨_, _, rfl, _⟩ := emitByte_cases hbyte
    simp

theorem Quiets.elapsed {s t : State} (h : Quiets s t) : t.ts - t.tprev = s.ts - s.tprev := by
  induction h with
  | refl => rfl
  | tail _ hq ih => exact hq.elapsed.trans ih

/-- Settles O30: the boundary update moves TS and TPREV together, and only a successful CONFIGURE, which is then the whole step,
sets them otherwise. -/
theorem timestampMeasuresFromConfiguration : Obligations.TimestampMeasuresFromConfiguration := by
  intro s t h
  rcases step_parts h with hq | ⟨b, u, hb, hu, hq, hwhole⟩
  · exact .inl hq.elapsed
  · rw [← hu.elapsed]
    rcases receiveByte_moves b u with ⟨_, h⟩ | ⟨hc, h⟩ | ⟨_, _, _, _, h⟩
    · rw [h] at hq
      exact .inl hq.elapsed
    · rw [hwhole hc, h]
      rcases configureWith_time (parse (storePayload b u).rxBuf) (receiverToCmd (storePayload b u)) with
        ⟨hts, htp⟩ | ⟨hts, htp, hph⟩
      · rw [hts, htp]
        exact .inl rfl
      · exact .inr ⟨hts, htp, hph, b, hb, (hu.completesPayload_eq b).symm.trans hc⟩
    · rw [h] at hq
      exact .inl hq.elapsed

/-! ## The link (R58) -/

theorem Micro.linkOut_prefix {s t : State} (h : Micro s t) : s.linkOut <+: t.linkOut := by
  cases h with
  | env => exact List.prefix_rfl
  | count => exact List.prefix_rfl
  | receive b => exact receiveByte_linkOut_prefix b s
  | tick g u h =>
    obtain ⟨_, happ⟩ := execTick_next h
    obtain ⟨_, _, _, rfl⟩ := appendGroup_cases happ
    simp
  | take h =>
    obtain ⟨_, _, rfl⟩ := execTake_next h
    exact List.prefix_rfl
  | emit h =>
    obtain ⟨_, _, hbyte⟩ := execEmit_next h
    obtain ⟨_, _, rfl, _⟩ := emitByte_cases hbyte
    simp

/-- Settles O44: every micro step only appends to LINK_OUT, and a step is a chain of them. -/
theorem linkOutOnlyGrows : Obligations.LinkOutOnlyGrows := fun s _ h =>
  step_keeps (P := fun u => s.linkOut <+: u.linkOut) (fun _ _ hm hp => hp.trans hm.linkOut_prefix) h List.prefix_rfl

/-! ## Status outputs and the sampler's stops -/

/-- Settles O24: the outputs are read off PHASE and the flags. -/
theorem statusOutputsFollowState : Obligations.StatusOutputsFollowState := fun s =>
  ⟨by simp [waitOut], rfl, rfl, rfl⟩

/-- A group that runs over the end of the slot meets a word index of `B` (R72). -/
theorem writeGroup_fault {g : List Word} {i : Nat} {s : State} (hg : g ≠ [])
    (hB : s.params.bufferSize < i + g.length) : writeGroup g i s = .fault .slotIndexOutOfRange := by
  induction g generalizing i s with
  | nil => exact absurd rfl hg
  | cons w ws ih =>
    rw [writeGroup, slotWrite, noteOverwrite_params]
    split
    · rename_i hi
      have hws : ws ≠ [] := fun h => by simp [h] at hB; omega
      exact ih hws (by simp at hB ⊢; omega)
    · rfl

/-- While `Acquiring`, APPEND is its body. -/
theorem execAppend_acquiring {s : State} (ha : s.phase = .acquiring) (g : List Word) :
    execAppend g s = appendGroup g s := by
  simp [execAppend, tickEnabled, ha]

/-- While `Acquiring`, TICK is the boundary update and APPEND's body (R145). -/
theorem execTick_acquiring {s : State} (ha : s.phase = .acquiring) (g : List Word) (t : Time) :
    execTick g t s = appendGroup g (noteBoundary t s) := by
  simp [execTick, tickEnabled, ha]

theorem appendGroup_wrong_size {g : List Word} {s : State} (hg : g.length ≠ s.params.channels) :
    appendGroup g s = .refused .sampleGroupSize := if_pos hg

theorem appendGroup_no_room {g : List Word} {s : State} (hg : g.length = s.params.channels)
    (hc : s.osize < s.cursor + s.params.channels) : appendGroup g s = .fault .cursorPastFrame := by
  rw [appendGroup, if_neg (not_not.2 hg), if_pos hc]

theorem appendGroup_out_of_slot {g : List Word} {s : State} (h0 : g ≠ []) (hg : g.length = s.params.channels)
    (hc : s.cursor + s.params.channels ≤ s.osize) (hB : s.params.bufferSize < s.cursor + s.params.channels) :
    appendGroup g s = .fault .slotIndexOutOfRange := by
  rw [appendGroup, if_neg (not_not.2 hg), if_neg (Nat.not_lt.2 hc), writeGroup_fault h0 (by omega)]
  rfl

/-- Settles O27: APPEND and TICK share APPEND's body, whose tests stand in the order of the clauses; the boundary update of TICK
changes nothing that they read. -/
theorem samplerStops : Obligations.SamplerStops := by
  intro s g t
  refine ⟨fun hi => ?_, fun ha hg => ?_, fun ha hg hc => ?_, fun ha h0 hg hc hB => ?_⟩
  · simp [exec, execAppend, tickEnabled, hi]
  all_goals
    simp only [exec]
    rw [execAppend_acquiring ha, execTick_acquiring ha]
  · exact ⟨appendGroup_wrong_size hg, appendGroup_wrong_size (by simpa using hg)⟩
  · exact ⟨appendGroup_no_room hg hc, appendGroup_no_room (by simpa using hg) (by simpa using hc)⟩
  · exact ⟨appendGroup_out_of_slot h0 hg hc hB,
      appendGroup_out_of_slot h0 (by simpa using hg) (by simpa using hc) (by simpa using hB)⟩

end Sys2Proof.Machine
end

section
/-! SUPPORT. Two states that differ only in what is unspecified or kept by RESET (`Indist`: R33, R53, R272) go the same way through
every operation, and differ in that alone afterwards. -/

namespace Sys2Proof.Machine

/-! ## Moving together -/

/-- Where `o` answers a next state, `o'` answers an indistinguishable one. -/
def Follows (o o' : Host.Outcome State Fault Refusal) : Prop :=
  ∀ s', o = .next s' → ∃ t', o' = .next t' ∧ Indist s' t'

theorem Follows.next {s t : State} (h : Indist s t) : Follows (.next s) (.next t) := by
  intro s' hs
  cases hs
  exact ⟨t, rfl, h⟩

theorem Follows.refused (r : Refusal) (o' : Host.Outcome State Fault Refusal) : Follows (.refused r) o' :=
  fun _ h => by cases h

theorem Follows.fault (r : Fault) (o' : Host.Outcome State Fault Refusal) : Follows (.fault r) o' :=
  fun _ h => by cases h

theorem Follows.andThen {o o' : Host.Outcome State Fault Refusal} {f f' : State → Host.Outcome State Fault Refusal}
    (ho : Follows o o') (hf : ∀ u v, o = .next u → Indist u v → Follows (f u) (f' v)) :
    Follows (andThen o f) (andThen o' f') := by
  intro s' h
  obtain ⟨u, hu, hs⟩ := andThen_eq_next.1 h
  obtain ⟨v, hv, huv⟩ := ho u hu
  obtain ⟨t', ht, hst⟩ := hf u v hu huv s' hs
  exact ⟨t', andThen_eq_next.2 ⟨v, hv, ht⟩, hst⟩

/-- Two choices by equivalent conditions are related where their branches are. -/
theorem ite_related {α : Type} {R : α → α → Prop} {c c' : Prop} [Decidable c] [Decidable c'] {a b a' b' : α}
    (hc : c ↔ c') (h1 : c → R a a') (h2 : ¬ c → R b b') : R (if c then a else b) (if c' then a' else b') := by
  by_cases h : c
  · rw [if_pos h, if_pos (hc.1 h)]
    exact h1 h
  · rw [if_neg h, if_neg (mt hc.2 h)]
    exact h2 h

/-! ## What indistinguishable states agree on -/

section
variable {s t : State} (h : Indist s t)
include h

theorem Indist.tickEnabled_eq : tickEnabled t = tickEnabled s := by simp [tickEnabled, h.phase]

theorem Indist.takeEnabled_eq : takeEnabled t = takeEnabled s := by simp [takeEnabled, h.ready, h.encBusy]

theorem Indist.emitEnabled_eq : emitEnabled t = emitEnabled s := by simp [emitEnabled, h.encBusy, h.txReady]

theorem Indist.completesPayload_eq (b : Byte) : completesPayload b t = completesPayload b s := by
  simp [completesPayload, h.fatal, h.rxMode, h.rxCnt]

theorem Indist.eventEnabled_eq (e : Event) : eventEnabled e t = eventEnabled e s := by
  cases e with
  | tick => exact h.tickEnabled_eq
  | take => exact h.takeEnabled_eq
  | emit => exact h.encBusy.symm
  | _ => rfl

/-- The encoder's slot and length count only while it is busy, and are the same then. -/
theorem Indist.overwritesUnsent_eq (i : Nat) : overwritesUnsent t i = overwritesUnsent s i := by
  cases hb : s.encBusy with
  | false => simp [overwritesUnsent, ← h.encBusy, hb]
  | true => simp [overwritesUnsent, ← h.encBusy, ← h.encSlot hb, ← h.encLen hb, ← h.active, ← h.encPos]

theorem Indist.overwritesAny_eq (i n : Nat) : overwritesAny t i n = overwritesAny s i n := by
  simp [overwritesAny, h.overwritesUnsent_eq]

theorem Indist.observe_eq : observe s = observe t := by
  simp [observe, waitOut, fatalOut, perrOut, ovrOut, h.linkOut, h.phase, h.fatal, h.perr, h.ovr]

/-! ## Timer -/

theorem indist_count (n : Nat) : Indist { s with tmrCnt := n } { t with tmrCnt := n } := { h with tmrCnt := rfl }

/-! ## Control unit -/

/-- An empty pipeline has no word, no FREQ and no frame to compare. -/
theorem indist_pipelineClear : Indist (pipelineClear s) (pipelineClear t) :=
  { h with
    active := rfl
    cursor := rfl
    ready := rfl
    osize := rfl
    phase := rfl
    tmrCnt := rfl
    encBusy := rfl
    encPos := rfl
    freq := by simp
    encSlot := by simp
    encLen := by simp
    encHi := by simp
    written := by simp
    readyWords := by simp
    unsent := by simp }

theorem indist_clearFlags : Indist (clearFlags s) (clearFlags t) := { h with fatal := rfl, perr := rfl, ovr := rfl }

theorem indist_perr (e : Bool) : Indist { s with perr := e } { t with perr := e } := { h with perr := rfl }

theorem indist_recordError (e : ErrorCode) : Indist (recordError e s) (recordError e t) :=
  { h with
    fatal := by simp [h.fatal]
    perr := by simp [h.perr]
    ovr := by simp [h.ovr] }

theorem indist_receiverToCmd : Indist (receiverToCmd s) (receiverToCmd t) :=
  { h with
    rxMode := rfl
    rxCnt := rfl
    received := fun hp => by cases hp }

theorem indist_resetBlock : Indist (resetBlock s) (resetBlock t) :=
  indist_receiverToCmd (indist_clearFlags (indist_pipelineClear h))

/-- CONFIGURE's success branch sets EPOCH and FREQ and sends them, so nothing kept from before is seen. -/
theorem indist_startAcquiring (e : BitVec 64) (f : BitVec 10) :
    Indist (startAcquiring e f (pipelineClear s)) (startAcquiring e f (pipelineClear t)) :=
  { indist_pipelineClear h with
    osize := congrArg (outputSize · f.toNat) h.params
    phase := rfl
    tmrCnt := rfl
    linkOut := by simp [startAcquiring, acceptConfig, startSampler, h.linkOut, h.params]
    freq := fun _ => rfl
    readyWords := fun hr => by cases hr }

theorem indist_applyConfig (r : ParseResult) :
    Indist (applyConfig r (pipelineClear s)) (applyConfig r (pipelineClear t)) := by
  have hc := indist_pipelineClear h
  cases r with
  | malformed => exact indist_recordError hc .e1
  | ok e f =>
    simp only [applyConfig, ← hc.params]
    split
    · exact indist_recordError hc .e2
    · split
      · exact indist_recordError hc .e3
      · exact indist_startAcquiring h e f

theorem indist_configureWith (r : ParseResult) : Indist (configureWith r s) (configureWith r t) := by
  simp only [configureWith, ← h.fatal]
  split
  · exact h
  · exact indist_applyConfig (indist_perr h false) r

/-! ## Receiver -/

theorem indist_startPayload : Indist (startPayload s) (startPayload t) :=
  { h with
    rxMode := rfl
    rxCnt := rfl
    received := fun _ k hk => absurd hk (Fin.not_lt_zero k) }

/-- After a payload byte is stored, the bytes up to RX_CNT are the same. -/
theorem storePayload_agree (hm : s.rxMode = .payload) (b : Byte) (k : Fin 14) (hk : k ≤ s.rxCnt) :
    (storePayload b s).rxBuf[k] = (storePayload b t).rxBuf[k] := by
  simp only [storePayload, ← h.rxCnt, Fin.getElem_fin, Vector.getElem_set]
  split
  · rfl
  · rename_i hne
    exact h.received hm k (lt_of_le_of_ne hk fun he => hne (by rw [he]))

/-- At the 14th byte the whole payload has been received (R53). -/
theorem storePayload_rxBuf_eq (hm : s.rxMode = .payload) (h13 : s.rxCnt = 13) (b : Byte) :
    (storePayload b s).rxBuf = (storePayload b t).rxBuf :=
  Vector.ext fun k hk => storePayload_agree h hm b ⟨k, hk⟩ (by rw [h13, Fin.le_def]; simp; omega)

theorem indist_collectPayload (hm : s.rxMode = .payload) (b : Byte) :
    Indist (collectPayload b s) (collectPayload b t) := by
  simp only [collectPayload, ← h.rxCnt]
  split
  · rename_i h13
    rw [← storePayload_rxBuf_eq h hm h13 b]
    refine indist_configureWith ?_ _
    exact
      { h with
        rxMode := rfl
        rxCnt := rfl
        received := fun hp => by cases hp }
  · rename_i hne
    exact
      { h with
        rxCnt := rfl
        received := fun _ k hk => storePayload_agree h hm b k (by
          have hlt : (s.rxCnt : Nat) ≠ 13 := fun hv => hne (Fin.ext hv)
          simp only [Fin.lt_def, Fin.val_add] at hk
          simp only [Fin.le_def]
          omega) }

theorem indist_receiveByte (b : Byte) : Indist (receiveByte b s) (receiveByte b t) := by
  simp only [receiveByte, ← h.fatal, ← h.rxMode]
  split
  · exact indist_resetBlock h
  · split
    · exact h
    · split
      · exact indist_startPayload h
      · cases hm : s.rxMode with
        | cmd => exact h
        | payload => exact indist_collectPayload h hm b

/-! ## Sampler -/

theorem indist_noteBoundary (u : Time) : Indist (noteBoundary u s) (noteBoundary u t) := by
  refine ite_related (R := Indist) (by rw [h.cursor]) (fun _ => ?_) fun _ => h
  exact { h with }

end

/-- After the same group is written, the words that agreed before and those of the group agree. -/
theorem storeGroup_agree {s t : State} (hp : s.params = t.params) (k : Slot) (g : List Word) {c : Nat} (k' : Slot) {i : Nat}
    (hB : c + g.length ≤ s.params.bufferSize) (hi : i < s.params.bufferSize)
    (h : ¬ (k' = k ∧ c ≤ i ∧ i < c + g.length) → slotWord s k' i = slotWord t k' i) :
    slotWord { s with slots := storeGroup s.params k g c s.slots } k' i =
      slotWord { t with slots := storeGroup t.params k g c t.slots } k' i := by
  by_cases hin : k' = k ∧ c ≤ i ∧ i < c + g.length
  · obtain ⟨rfl, hlo, hup⟩ := hin
    obtain ⟨d, rfl⟩ := Nat.exists_eq_add_of_le hlo
    rw [slotWord_storeGroup s _ g c d hB (by omega), slotWord_storeGroup t _ g c d (by rw [← hp]; exact hB) (by omega)]
  · have hne : ∀ d, d < g.length → slotAddr s.params k' i ≠ slotAddr s.params k (c + d) := by
      intro d hd ha
      obtain ⟨hk, hid⟩ := slotAddr_inj hi (by omega) ha
      exact hin ⟨hk, by omega, by omega⟩
    rw [slotWord_storeGroup_other s k k' g c i hne, slotWord_storeGroup_other t k k' g c i (by rw [← hp]; exact hne)]
    exact h hin

/-- The state after the loop of R121 has written the group `g`. -/
def afterGroup (g : List Word) (s : State) : State :=
  { s with slots := storeGroup s.params s.active g s.cursor s.slots
           ovr := s.ovr || overwritesAny s s.cursor s.params.channels }

theorem appendGroup_eq_afterGroup {g : List Word} {s : State} (hg : g.length = s.params.channels)
    (hc : s.cursor + s.params.channels ≤ s.osize) (hB : s.cursor + s.params.channels ≤ s.params.bufferSize) :
    appendGroup g s = .next (finishAppend (afterGroup g s)) := appendGroup_eq g s hg hc hB

section
variable {s t : State} (hs : Inv s) (h : Indist s t) (ha : s.phase = .acquiring) {g : List Word}
  (hg : g.length = s.params.channels)
include hs h ha hg

theorem afterGroup_agree (k : Slot) {i : Nat} (hi : i < s.params.bufferSize)
    (hw : ¬ (k = s.active ∧ s.cursor ≤ i ∧ i < s.cursor + g.length) → slotWord s k i = slotWord t k i) :
    slotWord (afterGroup g s) k i = slotWord (afterGroup g t) k i := by
  have hfit := group_fits_slot hs ha
  have := storeGroup_agree h.params s.active g k (by omega) hi hw
  simpa [afterGroup, slotWord, ← h.active, ← h.cursor] using this

/-- Up to the end of the group, the active slot's words are the same. -/
theorem afterGroup_written (i : Nat) (hi : i < s.cursor + s.params.channels) :
    slotWord (afterGroup g s) s.active i = slotWord (afterGroup g t) s.active i := by
  have hfit := group_fits_slot hs ha
  exact afterGroup_agree hs h ha hg s.active (by omega) fun hout =>
    h.written i (by by_contra hlt; exact hout ⟨rfl, by omega, by omega⟩)

theorem indist_afterGroup : Indist (afterGroup g s) (afterGroup g t) := by
  obtain ⟨_, hB, _⟩ := hs.acquiring ha
  exact
    { h with
      ovr := by simp only [afterGroup, h.overwritesAny_eq, ← h.ovr, ← h.cursor, ← h.params]
      written := fun i hi => afterGroup_written hs h ha hg i (Nat.lt_add_right _ hi)
      readyWords := fun hr i hi =>
        afterGroup_agree hs h ha hg _ (Nat.lt_of_lt_of_le hi hB) fun _ => h.readyWords hr i hi
      unsent := fun hb i hi hp =>
        afterGroup_agree hs h ha hg _
          (Nat.lt_of_lt_of_le hi ((hs.busy hb).1.trans_le hB)) fun _ => h.unsent hb i hi hp }

end

/-- The swap hands the written words over as the ready frame's; otherwise the cursor moves behind them. -/
theorem indist_finishAppend {s t : State} (h : Indist s t)
    (hw : ∀ i, i < s.cursor + s.params.channels → slotWord s s.active i = slotWord t s.active i) :
    Indist (finishAppend s) (finishAppend t) := by
  refine ite_related (R := Indist) (by rw [h.cursor, h.params, h.osize]) (fun hfull => ?_) fun _ => ?_
  · rw [noteDrop_eq, noteDrop_eq]
    exact
      { h with
        active := congrArg Slot.other h.active
        cursor := rfl
        ready := rfl
        ovr := by simp [swapSlots, h.ovr, h.ready]
        written := fun i hi => absurd hi (Nat.not_lt_zero i)
        readyWords := fun _ i hi => by
          have := hw i (hi.trans_eq hfull.symm)
          simpa [swapSlots, slotWord] using this }
  · exact
      { h with
        cursor := by simp [h.cursor, h.params]
        written := hw }

theorem follows_appendGroup {s t : State} (hs : Inv s) (h : Indist s t) (ha : s.phase = .acquiring) (g : List Word) :
    Follows (appendGroup g s) (appendGroup g t) := by
  by_cases hg : g.length = s.params.channels
  · have hfit := group_fits hs ha
    have hfitB := group_fits_slot hs ha
    rw [appendGroup_eq_afterGroup hg hfit hfitB, appendGroup_eq_afterGroup (s := t) (hg.trans (congrArg _ h.params))
      (by rw [← h.cursor, ← h.params, ← h.osize]; exact hfit) (by rw [← h.cursor, ← h.params]; exact hfitB)]
    exact .next (indist_finishAppend (indist_afterGroup hs h ha hg) (afterGroup_written hs h ha hg))
  · rw [appendGroup_wrong_size hg]
    exact .refused _ _

theorem follows_execTick {s t : State} (hs : Inv s) (h : Indist s t) (g : List Word) (u : Time) :
    Follows (execTick g u s) (execTick g u t) := by
  simp only [execTick, h.tickEnabled_eq]
  split
  · rename_i hen
    exact follows_appendGroup (inv_noteBoundary hs u) (indist_noteBoundary h u) (by simpa using tickEnabled_iff.1 hen) g
  · exact .refused _ _

/-! ## Drain engine -/

/-- TAKE latches the ready frame, whose words are the same. -/
theorem indist_latchFrame {s t : State} (h : Indist s t) (hr : s.ready = true) :
    Indist (latchFrame s) (latchFrame t) :=
  { h with
    ready := rfl
    encBusy := rfl
    encPos := rfl
    encSlot := fun _ => congrArg Slot.other h.active
    encLen := fun _ => h.osize
    encHi := fun _ hp => absurd hp (by simp)
    readyWords := fun hn => by cases hn
    unsent := fun _ i hi _ => h.readyWords hr i hi }

theorem follows_execTake {s t : State} (h : Indist s t) : Follows (execTake s) (execTake t) := by
  simp only [execTake, h.takeEnabled_eq]
  split
  · rename_i hen
    exact .next (indist_latchFrame h (takeEnabled_iff.1 hen).1)
  · exact .refused _ _

/-- The end of an EMIT: the latch is seen next only after an even position of 4 or more, a word's low byte. -/
theorem indist_advanceEncoder {s t : State} (h : Indist s t) (hb : s.encBusy = true)
    (hhi : 4 ≤ s.encPos → s.encPos % 2 = 0 → s.encHi = t.encHi) : Indist (advanceEncoder s) (advanceEncoder t) := by
  refine ite_related (R := Indist) (by rw [h.encPos, h.encLen hb]) (fun _ => ?_) fun _ => ?_
  · exact
      { h with
        encBusy := rfl
        encPos := rfl
        encSlot := fun hn => by cases hn
        encLen := fun hn => by cases hn
        encHi := fun hn => by cases hn
        unsent := fun hn => by cases hn }
  · exact
      { h with
        encPos := congrArg (· + 1) h.encPos
        encHi := fun _ hp hodd => by
          simp only at hp hodd
          exact hhi (by omega) (by omega)
        unsent := fun _ i hi hp => h.unsent hb i hi (by simp only at hp; omega) }

/-- A byte is sent and a high byte latched: the same byte, and the same latch where it is seen next. -/
theorem indist_sent {s t : State} (h : Indist s t) (hb : s.encBusy = true) (b : Byte) {hi hi' : Byte}
    (hhi : 4 ≤ s.encPos → hi = hi') :
    Indist (advanceEncoder { linkSend [b] s with encHi := hi }) (advanceEncoder { linkSend [b] t with encHi := hi' }) :=
  indist_advanceEncoder
    { h with
      linkOut := congrArg (· ++ [b]) h.linkOut
      encHi := fun _ hp _ => hhi (Nat.le_of_lt hp) }
    hb fun hp _ => hhi hp

theorem follows_emitByte {s t : State} (hs : Inv s) (h : Indist s t) (hb : s.encBusy = true) :
    Follows (emitByte s) (emitByte t) := by
  simp only [emitByte, slotRead, ← h.encPos, ← h.encSlot hb, ← h.params]
  split
  · exact .next (indist_sent h hb _ fun hp => by omega)
  · split
    · obtain ⟨_, hpos⟩ := hs.busy hb
      have hw := h.unsent hb ((s.encPos - 4) / 2) (by omega) (by omega)
      rw [← hw]
      split
      · exact .next (indist_sent h hb _ fun _ => rfl)
      · exact .fault _ _
    · have hhi := h.encHi hb (by omega) (by omega)
      rw [← hhi]
      exact .next (indist_sent h hb _ fun _ => hhi)

theorem follows_execEmit {s t : State} (hs : Inv s) (h : Indist s t) : Follows (execEmit s) (execEmit t) := by
  simp only [execEmit, h.emitEnabled_eq]
  split
  · rename_i hen
    exact follows_emitByte hs h (emitEnabled_iff.1 hen).1
  · exact .refused _ _

/-! ## Clock cycles -/

theorem follows_timerCount {s t : State} (hs : Inv s) (h : Indist s t) (ha : s.phase = .acquiring) (c : CycleInputs) :
    Follows (timerCount c s) (timerCount c t) := by
  have hper := hs.timer ha
  have hpt : timerPeriod t.params t.freq.toNat = timerPeriod s.params s.freq.toNat := by rw [h.params, h.freq ha]
  unfold timerCount
  rw [hpt]
  refine ite_related (R := Follows) Iff.rfl (fun _ => .fault _ _) fun _ =>
    ite_related (R := Follows) (by rw [h.tmrCnt]) (fun _ => ?_) fun _ => ?_
  · rw [← h.tmrCnt]
    exact .next (indist_count h _)
  · exact follows_execTick (inv_count hs ha (by omega)) (indist_count h 0) _ _

theorem follows_cycleTimer {s t : State} (hs : Inv s) (h : Indist s t) (r : Bool) (c : CycleInputs) :
    Follows (cycleTimer r c s) (cycleTimer r c t) := by
  simp only [cycleTimer, h.tickEnabled_eq]
  split
  · rename_i hen
    exact follows_timerCount hs h (tickEnabled_iff.1 (Bool.and_elim_left hen)) c
  · exact .next h

theorem follows_cycleTake {s t : State} (h : Indist s t) (c : CycleInputs) :
    Follows (cycleTake c s) (cycleTake c t) := by
  simp only [cycleTake, h.takeEnabled_eq]
  split
  · exact follows_execTake h
  · exact .next h

theorem follows_cycleEmit {s t : State} (hs : Inv s) (h : Indist s t) : Follows (cycleEmit s) (cycleEmit t) := by
  simp only [cycleEmit, h.emitEnabled_eq]
  split
  · exact follows_execEmit hs h
  · exact .next h

theorem restartsTimer_eq {s t : State} (h : Indist s t) (c : CycleInputs) : restartsTimer c t = restartsTimer c s := by
  unfold restartsTimer
  split
  · exact h.completesPayload_eq _
  · rfl

theorem indist_cycleReceive {s t : State} (h : Indist s t) (c : CycleInputs) :
    Indist (cycleReceive c s) (cycleReceive c t) := by
  unfold cycleReceive
  split
  · exact indist_receiveByte h _
  · exact h

theorem indist_driveInputs {s t : State} (h : Indist s t) (c : CycleInputs) :
    Indist (driveInputs c s) (driveInputs c t) := { h with timeNow := rfl, txReady := rfl }

theorem follows_clockCycle {s t : State} (hs : Inv s) (h : Indist s t) (c : CycleInputs) :
    Follows (clockCycle c s) (clockCycle c t) := by
  have hrecv := (cycleReceive_micros c _).inv (inv_driveInputs hs c)
  rw [clockCycle, clockCycle, restartsTimer_eq h]
  refine (follows_cycleTimer hrecv (indist_cycleReceive (indist_driveInputs h c) c) _ c).andThen fun u v hu huv => ?_
  have hsu := (cycleTimer_micros hu).inv hrecv
  exact (follows_cycleTake huv c).andThen fun w x hw hwx => follows_cycleEmit ((cycleTake_micros hw).inv hsu) hwx

/-! ## Steps -/

theorem follows_runEvent {s t : State} (hs : Inv s) (h : Indist s t) (e : Event) :
    Follows (runEvent e s) (runEvent e t) := by
  cases e with
  | rx b => exact .next (indist_receiveByte h b)
  | tick g u => exact follows_execTick hs h g u
  | take => exact follows_execTake h
  | emit => exact follows_execEmit (inv_env hs s.sched s.draws s.timeNow true) { h with txReady := rfl }
  | now u => exact .next { h with timeNow := rfl }
  | cycle c => exact follows_clockCycle hs h c

theorem follows_step {s t : State} (hs : Inv s) (h : Indist s t) : Follows (step s) (step t) := by
  cases hsch : s.sched with
  | cons e rest =>
    have hrest : Indist { s with sched := rest } { t with sched := rest } := { h with sched := rfl }
    rw [step_sched hsch, step_sched (h.sched.symm.trans hsch)]
    exact follows_runEvent (inv_env hs rest s.draws s.timeNow s.txReady) hrest e
  | nil =>
    have hdraw : Indist { s with draws := s.draws + 1 } { t with draws := t.draws + 1 } :=
      { h with draws := congrArg (· + 1) h.draws }
    have he : drawEvent t.params t.draws = drawEvent s.params s.draws := by rw [h.params, h.draws]
    rw [step_free hsch, step_free (h.sched.symm.trans hsch), he, h.eventEnabled_eq]
    split
    · exact follows_runEvent (inv_env hs s.sched (s.draws + 1) s.timeNow s.txReady) hdraw _
    · exact .next hdraw

/-- Settles O55: every operation goes the same way from indistinguishable states, and the invariant bounds the words that it
compares. -/
theorem unspecifiedContentsAreUnobservable : Obligations.UnspecifiedContentsAreUnobservable := by
  intro s t s' hs h hstep
  obtain ⟨t', ht, hst⟩ := follows_step hs h s' hstep
  exact ⟨t', ht, hst, hst.observe_eq⟩

end Sys2Proof.Machine
end

section
/-! SUPPORT. What a scheduled event runs, the slot memory through every operation, and the encoder: the bytes of a frame, EMIT in
each of its positions, and the frame that DATA_FRAME sends. -/

namespace Sys2Proof.Machine

/-! ## A scheduled event (R79, R102) -/

/-- Settles O6: a step runs the event at the front of the schedule, and an event that decodes runs its operation. -/
theorem stepRunsScheduledEvent : Obligations.StepRunsScheduledEvent := by
  intro s e rest hs
  rw [step_sched hs]
  refine ⟨fun i hi => runEvent_of_decodes hi, fun t he => ?_, fun c he => ?_⟩
  · rw [he, runEvent]
  · rw [he, runEvent]

/-! ## SlotRead and SlotWrite (R72) -/

theorem slotWrite_of_lt {s : State} {i : Nat} (hi : i < s.params.bufferSize) (k : Slot) (v : Word) :
    slotWrite s k i v = .next { s with slots := storeWord s.params s.slots k i v } := if_pos hi

theorem slotWrite_of_ge {s : State} {i : Nat} (hi : s.params.bufferSize ≤ i) (k : Slot) (v : Word) :
    slotWrite s k i v = .fault .slotIndexOutOfRange := if_neg (Nat.not_lt.2 hi)

theorem slotRead_of_lt {s : State} {i : Nat} (hi : i < s.params.bufferSize) (k : Slot) :
    slotRead s k i = some (slotWord s k i) := if_pos hi

theorem slotRead_of_ge {s : State} {i : Nat} (hi : s.params.bufferSize ≤ i) (k : Slot) : slotRead s k i = none :=
  if_neg (Nat.not_lt.2 hi)

theorem slotRead_store_other {s : State} {k k' : Slot} {i j : Nat} (hi : i < s.params.bufferSize)
    (h : ¬ (k' = k ∧ j = i)) (v : Word) :
    slotRead { s with slots := storeWord s.params s.slots k i v } k' j = slotRead s k' j := by
  by_cases hj : j < s.params.bufferSize
  · rw [slotRead_of_lt hj, slotRead_of_lt (by exact hj),
      slotWord_store_other s k k' i j v fun ha => h (slotAddr_inj hj hi ha)]
  · rw [slotRead_of_ge (Nat.not_lt.1 hj), slotRead_of_ge (by exact Nat.not_lt.1 hj)]

/-- Settles O29: different words have different addresses, so a store reaches its own word alone. -/
theorem slotMemoryRule : Obligations.SlotMemoryRule := by
  refine fun s k i v => ⟨fun hi => ⟨_, slotWrite_of_lt hi k v, ?_, fun k' j h => slotRead_store_other hi h v, rfl⟩,
    fun hi => ⟨slotWrite_of_ge hi k v, slotRead_of_ge hi k⟩⟩
  rw [slotRead_of_lt (by exact hi), slotWord_store_same]

/-! ## Which operations write the slot memory (R78, R121, R147) -/

@[simp] theorem configureWith_slots (r : ParseResult) (s : State) : (configureWith r s).slots = s.slots := by
  rcases configureWith_cases r s with ⟨_, h⟩ | ⟨_, _, h⟩ | ⟨_, _, h⟩ | ⟨_, _, _, _, _, _, h⟩ <;> rw [h] <;> rfl

@[simp] theorem receiveByte_slots (b : Byte) (s : State) : (receiveByte b s).slots = s.slots := by
  rcases receiveByte_moves b s with ⟨_, h⟩ | ⟨_, h⟩ | ⟨_, _, _, _, h⟩ <;> rw [h]
  case inr.inl => simp
  all_goals rfl

@[simp] theorem finishAppend_slots (s : State) : (finishAppend s).slots = s.slots := by
  unfold finishAppend; split <;> simp

theorem appendGroup_slots {g : List Word} {s t : State} (h : appendGroup g s = .next t) :
    g.length = s.params.channels ∧ t.slots = storeGroup s.params s.active g s.cursor s.slots := by
  obtain ⟨hg, _, _, rfl⟩ := appendGroup_cases h
  exact ⟨hg, by simp⟩

theorem emitByte_slots {s t : State} (h : emitByte s = .next t) : t.slots = s.slots := by
  obtain ⟨_, _, rfl, _⟩ := emitByte_cases h
  simp

theorem emitMany_slots {n : Nat} {s t : State} (h : emitMany n s = .next t) : t.slots = s.slots := by
  induction n generalizing s with
  | zero => cases h; rfl
  | succ n ih =>
    obtain ⟨u, hu, ht⟩ := andThen_eq_next.1 h
    exact (ih ht).trans (emitByte_slots hu)

theorem execDataFrame_next {s t : State} (h : execDataFrame s = .next t) :
    emitEnabled s = true ∧ emitMany (frameLength s.encLen - s.encPos) s = .next t := by
  unfold execDataFrame at h
  split at h
  · exact ⟨‹_›, h⟩
  · cases h

/-- An operation leaves the slot memory alone, or is APPEND or TICK and stores its group at the cursor of the active slot. -/
theorem exec_slots_cases {i : Instr} {s t : State} (h : exec i s = .next t) :
    t.slots = s.slots ∨
    ∃ g, (i = .append g ∨ ∃ u, i = .tick g u) ∧ g.length = s.params.channels ∧
      t.slots = storeGroup s.params s.active g s.cursor s.slots := by
  cases i with
  | append g => exact .inr ⟨g, .inl rfl, appendGroup_slots (execAppend_next h).2⟩
  | tick g u => exact .inr ⟨g, .inr ⟨u, rfl⟩, by simpa using appendGroup_slots (execTick_next h).2⟩
  | take =>
    obtain ⟨_, _, rfl⟩ := execTake_next h
    exact .inl rfl
  | emit => exact .inl (emitByte_slots (execEmit_next h).2.2)
  | dataFrame => exact .inl (emitMany_slots (execDataFrame_next h).2)
  | configure r => cases h; exact .inl (configureWith_slots r s)
  | reset => cases h; exact .inl rfl
  | ackLine => cases h; exact .inl rfl
  | _ => cases h; exact .inl (receiveByte_slots _ s)

/-- Settles O38: only APPEND and TICK store, and their group covers the `C` words at the cursor. -/
theorem slotMemoryFrame : Obligations.SlotMemoryFrame := by
  intro s t i h
  rcases exec_slots_cases h with hm | ⟨g, hi, hg, hm⟩ <;> rw [hm]
  · exact ⟨fun _ _ _ => rfl, fun _ _ => rfl⟩
  · refine ⟨fun hnt hna => ?_, fun a ha => readByte_storeGroup_other _ _ _ _ _ _ (by rwa [hg])⟩
    rcases hi with rfl | ⟨u, rfl⟩
    · exact absurd rfl (hna g)
    · exact absurd rfl (hnt g u)

/-- Settles O42: an operation keeps the memory or stores a group into it, and a store keeps the addresses rising. -/
theorem memoryStaysCanonical : Obligations.MemoryStaysCanonical := by
  intro s t i h hwf
  rcases exec_slots_cases h with hm | ⟨g, _, _, hm⟩ <;> rw [hm]
  · exact hwf
  · exact wf_storeGroup _ _ _ _ hwf

/-! ## The bytes of a frame (R97, R162) -/

theorem length_flatMap_wordBytes (w : List Word) : (w.flatMap wordBytes).length = 2 * w.length := by
  induction w with
  | nil => rfl
  | cons v w ih => simp [wordBytes, ih]; omega

/-- Word `i` is sent as its low and its high byte (R75). -/
theorem getElem?_flatMap_wordBytes {w : List Word} {i : Nat} {v : Word} (h : w[i]? = some v) :
    (w.flatMap wordBytes)[2 * i]? = some (lowByte v) ∧ (w.flatMap wordBytes)[2 * i + 1]? = some (highByte v) := by
  induction w generalizing i with
  | nil => simp at h
  | cons x w ih =>
    cases i with
    | zero => simp at h; simp [wordBytes, h]
    | succ i => simpa [wordBytes, Nat.mul_add] using ih (by simpa using h)

theorem length_frameBytes (w : List Word) : (frameBytes w).length = 4 + 2 * w.length := by
  rw [frameBytes, List.length_append, length_flatMap_wordBytes]
  rfl

theorem getElem?_frameBytes_sentinel (w : List Word) {k : Nat} (h : k < 4) : (frameBytes w)[k]? = some 0xFF#8 := by
  have hs : sentinel = List.replicate 4 0xFF#8 := rfl
  rw [frameBytes, List.getElem?_append_left (by simpa [hs] using h), hs, List.getElem?_replicate_of_lt h]

theorem getElem?_frameBytes_word {w : List Word} {i : Nat} {v : Word} (h : w[i]? = some v) :
    (frameBytes w)[4 + 2 * i]? = some (lowByte v) ∧ (frameBytes w)[5 + 2 * i]? = some (highByte v) := by
  have hs : sentinel.length = 4 := rfl
  obtain ⟨hlo, hhi⟩ := getElem?_flatMap_wordBytes h
  rw [frameBytes, List.getElem?_append_right (by omega), List.getElem?_append_right (by omega), hs]
  exact ⟨by rwa [Nat.add_sub_cancel_left], by rwa [show 5 + 2 * i - 4 = 2 * i + 1 by omega]⟩

/-- Settles O31: four sentinel bytes, then two bytes a word. -/
theorem frameBytesRule : Obligations.FrameBytesRule := fun w =>
  ⟨length_frameBytes w, fun _ hk => getElem?_frameBytes_sentinel w hk, fun _ _ hv => getElem?_frameBytes_word hv⟩

/-! ## EMIT in each of its positions (R163) -/

theorem emitByte_sentinel {s : State} (hp : s.encPos < 4) :
    emitByte s = .next (advanceEncoder { s with linkOut := s.linkOut ++ [0xFF#8] }) := if_pos hp

theorem emitByte_low {s : State} (hp : 4 ≤ s.encPos) (he : (s.encPos - 4) % 2 = 0)
    (hB : (s.encPos - 4) / 2 < s.params.bufferSize) :
    emitByte s = .next (advanceEncoder
      { s with linkOut := s.linkOut ++ [lowByte (slotWord s s.encSlot ((s.encPos - 4) / 2))]
               encHi := highByte (slotWord s s.encSlot ((s.encPos - 4) / 2)) }) := by
  rw [emitByte, if_neg (Nat.not_lt.2 hp), if_pos he, slotRead_of_lt hB]
  rfl

theorem emitByte_high {s : State} (hp : 4 ≤ s.encPos) (ho : (s.encPos - 4) % 2 = 1) :
    emitByte s = .next (advanceEncoder { s with linkOut := s.linkOut ++ [s.encHi] }) := by
  rw [emitByte, if_neg (Nat.not_lt.2 hp), if_neg (by omega)]
  rfl

/-- A word index of `B` or more is X1 (R72, log 11). -/
theorem emitByte_fault {s : State} (hp : 4 ≤ s.encPos) (he : (s.encPos - 4) % 2 = 0)
    (hB : s.params.bufferSize ≤ (s.encPos - 4) / 2) : emitByte s = .fault .slotIndexOutOfRange := by
  rw [emitByte, if_neg (Nat.not_lt.2 hp), if_pos he, slotRead_of_ge hB]

theorem execEmit_enabled {s : State} (hb : s.encBusy = true) (hx : s.txReady = true) : execEmit s = emitByte s :=
  if_pos (emitEnabled_iff.2 ⟨hb, hx⟩)

theorem execDataFrame_enabled {s : State} (hb : s.encBusy = true) (hx : s.txReady = true) :
    execDataFrame s = emitMany (frameLength s.encLen - s.encPos) s := if_pos (emitEnabled_iff.2 ⟨hb, hx⟩)

/-- Settles O35: both operations read the word of the position first, and the read fails. -/
theorem encoderStops : Obligations.EncoderStops := by
  intro s hb hx hp he hB
  have hf := emitByte_fault hp he hB
  refine ⟨(execEmit_enabled hb hx).trans hf, fun hlt => ?_⟩
  obtain ⟨n, hn⟩ : ∃ n, frameLength s.encLen - s.encPos = n + 1 :=
    ⟨frameLength s.encLen - s.encPos - 1, by rw [frameLength]; omega⟩
  rw [exec, execDataFrame_enabled hb hx, hn, emitMany, hf, andThen_fault]

/-! ## The end of an EMIT -/

theorem advanceEncoder_last {s : State} (h : s.encPos + 1 = 4 + 2 * s.encLen) :
    advanceEncoder s = { s with encBusy := false, encPos := 0 } := if_pos h

theorem advanceEncoder_more {s : State} (h : s.encPos + 1 ≠ 4 + 2 * s.encLen) :
    advanceEncoder s = { s with encPos := s.encPos + 1 } := if_neg h

@[simp] theorem finishAppend_encPos (s : State) : (finishAppend s).encPos = s.encPos := by
  unfold finishAppend; split <;> simp

@[simp] theorem finishAppend_encHi (s : State) : (finishAppend s).encHi = s.encHi := by
  unfold finishAppend; split <;> simp

/-- TICK does not touch what the encoder sends next but for the slot memory (R147). -/
theorem execTick_encoder {g : List Word} {n : Time} {s t : State} (h : execTick g n s = .next t) :
    t.encPos = s.encPos ∧ t.encHi = s.encHi ∧ t.linkOut = s.linkOut := by
  obtain ⟨_, happ⟩ := execTick_next h
  obtain ⟨_, _, _, rfl⟩ := appendGroup_cases happ
  simp

/-- An EMIT at an even data position sends the word's low byte and latches its high byte (R51, R73). -/
theorem execEmit_low_next {s t : State} (hp : 4 ≤ s.encPos) (he : s.encPos % 2 = 0)
    (hlast : s.encPos + 1 < 4 + 2 * s.encLen) (h : execEmit s = .next t) :
    t.encPos = s.encPos + 1 ∧ t.encHi = highByte (slotWord s s.encSlot ((s.encPos - 4) / 2)) ∧
      t.linkOut = s.linkOut ++ [lowByte (slotWord s s.encSlot ((s.encPos - 4) / 2))] := by
  obtain ⟨_, _, hbyte⟩ := execEmit_next h
  obtain ⟨b, hi, rfl, ⟨hlt, _⟩ | ⟨_, _, _, rfl, rfl⟩ | ⟨_, ho, _⟩⟩ := emitByte_cases hbyte
  · omega
  · rw [advanceEncoder_more (by exact hlast.ne)]
    exact ⟨rfl, rfl, rfl⟩
  · omega

/-- An EMIT at an odd data position sends the latch. -/
theorem execEmit_high_next {s t : State} (hp : 4 ≤ s.encPos) (ho : s.encPos % 2 = 1) (h : execEmit s = .next t) :
    t.linkOut = s.linkOut ++ [s.encHi] := by
  obtain ⟨_, _, hbyte⟩ := execEmit_next h
  rw [emitByte_high hp (by omega)] at hbyte
  cases hbyte
  simp

/-- Settles O36: the first EMIT latches the high byte, TICK keeps the latch, and the second EMIT sends it. -/
theorem sampleBytesComeFromOneRead : Obligations.SampleBytesComeFromOneRead := by
  intro s t u v g n hp he hlast ht hu hv
  obtain ⟨hpos, hhi, hlink⟩ := execEmit_low_next hp he hlast ht
  obtain ⟨hpos', hhi', hlink'⟩ := execTick_encoder hu
  rw [execEmit_high_next (by omega) (by omega) hv, hhi', hhi, hlink', hlink, List.append_assoc]
  rfl

/-! ## The frame that DATA_FRAME sends (R162, log 13) -/

/-- The bytes of the frame being sent, of its words as the slot memory holds them. -/
def latchedFrame (s : State) : List Byte := frameBytes ((List.range s.encLen).map (slotWord s s.encSlot))

/-- What the encoder has still to send: the rest of the frame, its first byte from the latch at an odd data position. -/
def pendingBytes (s : State) : List Byte :=
  if 4 < s.encPos ∧ s.encPos % 2 = 1 then s.encHi :: (latchedFrame s).drop (s.encPos + 1)
  else (latchedFrame s).drop s.encPos

theorem pendingBytes_latched {s : State} (h : 4 < s.encPos ∧ s.encPos % 2 = 1) :
    pendingBytes s = s.encHi :: (latchedFrame s).drop (s.encPos + 1) := if_pos h

theorem pendingBytes_unlatched {s : State} (h : ¬ (4 < s.encPos ∧ s.encPos % 2 = 1)) :
    pendingBytes s = (latchedFrame s).drop s.encPos := if_neg h

theorem length_latchedFrame (s : State) : (latchedFrame s).length = 4 + 2 * s.encLen := by
  simp [latchedFrame, length_frameBytes]

theorem pendingBytes_end {s : State} (h : s.encPos = 4 + 2 * s.encLen) : pendingBytes s = [] := by
  rw [pendingBytes_unlatched (by omega), List.drop_eq_nil_iff, length_latchedFrame, h]

theorem drop_of_getElem? {l : List Byte} {i : Nat} {b : Byte} (h : l[i]? = some b) : l.drop i = b :: l.drop (i + 1) := by
  rw [List.drop_eq_getElem?_toList_append, h]
  rfl

/-- From the position of word `i` on, the frame goes on with the word's two bytes. -/
theorem drop_latchedFrame_word {s : State} {i : Nat} (hi : i < s.encLen) :
    (latchedFrame s).drop (4 + 2 * i) = lowByte (slotWord s s.encSlot i) :: highByte (slotWord s s.encSlot i) ::
      (latchedFrame s).drop (4 + 2 * i + 2) := by
  have hw : ((List.range s.encLen).map (slotWord s s.encSlot))[i]? = some (slotWord s s.encSlot i) := by simp [hi]
  obtain ⟨hlo, hhi⟩ := getElem?_frameBytes_word hw
  rw [show 5 + 2 * i = 4 + 2 * i + 1 by omega] at hhi
  rw [latchedFrame, drop_of_getElem? hlo, drop_of_getElem? hhi]

/-- Inside the frame, EMIT's body sends the first of the pending bytes, and the others stay pending. -/
theorem emitByte_pending {s : State} (hB : s.encLen ≤ s.params.bufferSize) (hp : s.encPos < 4 + 2 * s.encLen) :
    ∃ b hi, emitByte s = .next (advanceEncoder { s with linkOut := s.linkOut ++ [b], encHi := hi }) ∧
      ∀ l, pendingBytes s = b :: pendingBytes { s with linkOut := l, encHi := hi, encPos := s.encPos + 1 } := by
  by_cases h4 : s.encPos < 4
  · refine ⟨_, _, emitByte_sentinel h4, fun l => ?_⟩
    rw [pendingBytes_unlatched (by omega), pendingBytes_unlatched (by simp only; omega)]
    exact drop_of_getElem? (getElem?_frameBytes_sentinel _ h4)
  · by_cases he : s.encPos % 2 = 0
    · obtain ⟨i, hi⟩ : ∃ i, s.encPos = 4 + 2 * i := ⟨(s.encPos - 4) / 2, by omega⟩
      have hidx : (s.encPos - 4) / 2 = i := by omega
      refine ⟨_, _, emitByte_low (by omega) (by omega) (by omega), fun l => ?_⟩
      rw [pendingBytes_unlatched (by omega), pendingBytes_latched (by simp only; omega), hidx]
      simp only [hi]
      exact drop_latchedFrame_word (by omega)
    · refine ⟨_, _, emitByte_high (by omega) (by omega), fun l => ?_⟩
      rw [pendingBytes_latched (by omega), pendingBytes_unlatched (by simp only; omega)]
      rfl

/-- The EMITs up to the end of the frame send the pending bytes and end it. -/
theorem emitMany_pending {n : Nat} {s : State} (hB : s.encLen ≤ s.params.bufferSize)
    (hn : s.encPos + (n + 1) = 4 + 2 * s.encLen) :
    ∃ hi, emitMany (n + 1) s = .next
      { s with linkOut := s.linkOut ++ pendingBytes s, encBusy := false, encPos := 0, encHi := hi } := by
  induction n generalizing s with
  | zero =>
    obtain ⟨b, hi, hbyte, hpend⟩ := emitByte_pending hB (by omega)
    have hlast : pendingBytes s = [b] := by rw [hpend s.linkOut, pendingBytes_end (by exact hn)]
    rw [emitMany, hbyte, advanceEncoder_last (by exact hn), hlast]
    exact ⟨hi, rfl⟩
  | succ n ih =>
    obtain ⟨b, hi, hbyte, hpend⟩ := emitByte_pending hB (by omega)
    obtain ⟨hi', hrest⟩ := ih (s := { s with linkOut := s.linkOut ++ [b], encHi := hi, encPos := s.encPos + 1 }) hB
      (by simp only; omega)
    rw [List.append_assoc, List.singleton_append, ← hpend] at hrest
    rw [emitMany, hbyte, advanceEncoder_more (by simp only; omega)]
    exact ⟨hi', hrest⟩

/-- Settles O37: DATA_FRAME is the EMITs up to the end of the frame, and each sends the next pending byte. -/
theorem dataFrameSendsFrameBytes : Obligations.DataFrameSendsFrameBytes := by
  refine fun s => ⟨fun hb hx hB hp => ?_, fun h => if_neg fun hen => ?_⟩
  · obtain ⟨n, hn⟩ := Nat.exists_eq_add_of_lt hp
    obtain ⟨hi, hsend⟩ := emitMany_pending (n := n) hB (by omega)
    have hlen : frameLength s.encLen - s.encPos = n + 1 := by rw [frameLength]; omega
    rw [← hlen, ← execDataFrame_enabled hb hx] at hsend
    exact ⟨_, hsend, rfl, rfl⟩
  · obtain ⟨hb, hx⟩ := emitEnabled_iff.1 hen
    simp [hb, hx] at h

end Sys2Proof.Machine
end

section
/-! SUPPORT. A clock cycle as a run of the untimed events (R149, R248): no operation of the events reads what the clock alone writes,
so the parts of a cycle are matched by events, one after the other. -/

namespace Sys2Proof.Machine

/-- The converse of `appendGroup_cases`: where its conditions hold, APPEND's body answers a next state. -/
theorem appendGroup_of_fits {g : List Word} {s : State} (hg : g.length = s.params.channels)
    (hc : s.cursor + s.params.channels ≤ s.osize)
    (hB : g = [] ∨ s.cursor + s.params.channels ≤ s.params.bufferSize) :
    appendGroup g s = .next (finishAppend (afterGroup g s)) := by
  rcases hB with rfl | hB
  · rw [appendGroup, if_neg (not_not.2 hg), if_neg (Nat.not_lt.2 hc), afterGroup, ← hg]
    simp [writeGroup, storeGroup, overwritesAny]
  · exact appendGroup_eq_afterGroup hg hc hB

/-! ## States that differ in what the clock alone writes -/

/-- `a` is `s` but for TMR_CNT, TX_READY and the schedule, which is `es`. -/
def Retimed (es : List Event) (s a : State) : Prop :=
  ∃ (n : Nat) (x : Bool), a = { s with tmrCnt := n, txReady := x, sched := es }

section
variable {es : List Event} {s a : State} (h : Retimed es s a)
include h

theorem Retimed.sched_eq : a.sched = es := by
  obtain ⟨n, x, rfl⟩ := h
  rfl

theorem Retimed.phase_eq : a.phase = s.phase := by
  obtain ⟨n, x, rfl⟩ := h
  rfl

theorem Retimed.encBusy_eq : a.encBusy = s.encBusy := by
  obtain ⟨n, x, rfl⟩ := h
  rfl

theorem Retimed.untimed_eq : untimed a = untimed s := by
  obtain ⟨n, x, rfl⟩ := h
  rfl

theorem Retimed.reschedule (es' : List Event) : Retimed es' s { a with sched := es' } := by
  obtain ⟨n, x, rfl⟩ := h
  exact ⟨n, x, rfl⟩

theorem Retimed.count (k : Nat) : Retimed es { s with tmrCnt := k } a := by
  obtain ⟨n, x, rfl⟩ := h
  exact ⟨n, x, rfl⟩

theorem Retimed.driveTxReady : Retimed es s { a with txReady := true } := by
  obtain ⟨n, x, rfl⟩ := h
  exact ⟨n, true, rfl⟩

theorem Retimed.driveInputs (c : CycleInputs) : Retimed es (driveInputs c s) { a with timeNow := c.time } := by
  obtain ⟨n, x, rfl⟩ := h
  exact ⟨n, x, rfl⟩

/-! ## Receiver -/

/-- CONFIGURE may restart TMR_CNT, and keeps TX_READY and the schedule. -/
theorem Retimed.configureWith (r : ParseResult) : Retimed es (configureWith r s) (configureWith r a) := by
  obtain ⟨n, x, rfl⟩ := h
  refine ite_related (R := Retimed es) Iff.rfl (fun _ => ⟨n, x, rfl⟩) fun _ => ?_
  cases r with
  | malformed => exact ⟨0, x, rfl⟩
  | ok e f =>
    exact ite_related (R := Retimed es) Iff.rfl (fun _ => ⟨0, x, rfl⟩) fun _ =>
      ite_related (R := Retimed es) Iff.rfl (fun _ => ⟨0, x, rfl⟩) fun _ => ⟨0, x, rfl⟩

theorem Retimed.collectPayload (b : Byte) : Retimed es (collectPayload b s) (collectPayload b a) := by
  obtain ⟨n, x, rfl⟩ := h
  exact ite_related (R := Retimed es) Iff.rfl (fun _ => Retimed.configureWith ⟨n, x, rfl⟩ _) fun _ => ⟨n, x, rfl⟩

theorem Retimed.receiveByte (b : Byte) : Retimed es (receiveByte b s) (receiveByte b a) := by
  have hcollect := h.collectPayload b
  obtain ⟨n, x, rfl⟩ := h
  refine ite_related (R := Retimed es) Iff.rfl (fun _ => ⟨0, x, rfl⟩) fun _ =>
    ite_related (R := Retimed es) Iff.rfl (fun _ => ⟨n, x, rfl⟩) fun _ =>
      ite_related (R := Retimed es) Iff.rfl (fun _ => ⟨n, x, rfl⟩) fun _ => ?_
  cases hm : s.rxMode with
  | cmd => exact ⟨n, x, by simp only [hm]⟩
  | payload => simpa only [hm] using hcollect

/-! ## Sampler -/

theorem Retimed.noteBoundary (u : Time) : Retimed es (noteBoundary u s) (noteBoundary u a) := by
  obtain ⟨n, x, rfl⟩ := h
  exact ite_related (R := Retimed es) Iff.rfl (fun _ => ⟨n, x, rfl⟩) fun _ => ⟨n, x, rfl⟩

theorem Retimed.finishAppend : Retimed es (finishAppend s) (finishAppend a) := by
  obtain ⟨n, x, rfl⟩ := h
  refine ite_related (R := Retimed es) Iff.rfl (fun _ => ?_) fun _ => ⟨n, x, rfl⟩
  rw [noteDrop_eq, noteDrop_eq]
  exact ⟨n, x, rfl⟩

theorem Retimed.appendGroup {t : State} {g : List Word}
    (ht : appendGroup g s = .next t) : ∃ b, appendGroup g a = .next b ∧ Retimed es t b := by
  obtain ⟨n, x, rfl⟩ := h
  obtain ⟨hg, hc, hB, rfl⟩ := appendGroup_cases ht
  exact ⟨_, appendGroup_of_fits hg hc hB, Retimed.finishAppend ⟨n, x, rfl⟩⟩

theorem Retimed.execTick {t : State} {g : List Word} {u : Time}
    (ht : execTick g u s = .next t) : ∃ b, execTick g u a = .next b ∧ Retimed es t b := by
  obtain ⟨ha, happ⟩ := execTick_next ht
  rw [execTick_acquiring (h.phase_eq.trans ha)]
  exact (h.noteBoundary u).appendGroup happ

/-! ## Drain engine -/

theorem Retimed.execTake {t : State} (ht : execTake s = .next t) : ∃ b, execTake a = .next b ∧ Retimed es t b := by
  obtain ⟨n, x, rfl⟩ := h
  obtain ⟨hr, hb, rfl⟩ := execTake_next ht
  exact ⟨_, if_pos (takeEnabled_iff.2 ⟨hr, hb⟩), n, x, rfl⟩

theorem Retimed.advanceEncoder : Retimed es (advanceEncoder s) (advanceEncoder a) := by
  obtain ⟨n, x, rfl⟩ := h
  exact ite_related (R := Retimed es) Iff.rfl (fun _ => ⟨n, x, rfl⟩) fun _ => ⟨n, x, rfl⟩

theorem Retimed.emitByte {t : State} (ht : emitByte s = .next t) : ∃ b, emitByte a = .next b ∧ Retimed es t b := by
  obtain ⟨n, x, rfl⟩ := h
  obtain ⟨b, hi, rfl, ⟨hp, rfl, rfl⟩ | ⟨hp, he, hB, rfl, rfl⟩ | ⟨hp, ho, rfl, rfl⟩⟩ := emitByte_cases ht
  · exact ⟨_, emitByte_sentinel hp, Retimed.advanceEncoder ⟨n, x, rfl⟩⟩
  · exact ⟨_, emitByte_low hp he hB, Retimed.advanceEncoder ⟨n, x, rfl⟩⟩
  · exact ⟨_, emitByte_high hp ho, Retimed.advanceEncoder ⟨n, x, rfl⟩⟩

/-- The event `emit` comes with TX_READY = 1, whatever the input was before (R102). -/
theorem Retimed.execEmit {t : State} (ht : execEmit s = .next t) :
    ∃ b, execEmit { a with txReady := true } = .next b ∧ Retimed es t b := by
  obtain ⟨hb, _, hbyte⟩ := execEmit_next ht
  rw [execEmit_enabled (s := { a with txReady := true }) (h.encBusy_eq.trans hb) rfl]
  exact h.driveTxReady.emitByte hbyte

end

/-! ## Runs that match a part of a cycle -/

/-- The run of `es` goes from `s` to `t`, up to what the clock alone writes, whatever is scheduled behind it. -/
def Matches (es : List Event) (s t : State) : Prop :=
  ∀ (es0 rest : List Event) (a : State), Retimed es0 s a →
    ∃ b, Retimed rest t b ∧ runEvents (es ++ rest) a = runEvents rest b

theorem Matches.none {s t : State} (h : ∀ es a, Retimed es s a → Retimed es t a) : Matches [] s t :=
  fun _ rest _ ha => ⟨_, h _ _ (ha.reschedule rest), rfl⟩

theorem Matches.event {e : Event} {s t : State}
    (h : ∀ es a, Retimed es s a → ∃ b, runEvent e a = .next b ∧ Retimed es t b) : Matches [e] s t := by
  intro es0 rest a ha
  obtain ⟨b, hb, htb⟩ := h _ _ (ha.reschedule rest)
  exact ⟨b, htb, runEvents_cons hb htb.sched_eq⟩

theorem Matches.append {es es' : List Event} {s t u : State} (h : Matches es s t) (h' : Matches es' t u) :
    Matches (es ++ es') s u := by
  intro es0 rest a ha
  obtain ⟨b, hb, hrun⟩ := h es0 (es' ++ rest) a ha
  obtain ⟨d, hd, hrun'⟩ := h' _ rest b hb
  exact ⟨d, hd, by rw [List.append_assoc, hrun, hrun']⟩

theorem Matches.run {es : List Event} {s t : State} (h : Matches es s t) :
    ∃ u, runEvents es s = .next u ∧ untimed u = untimed t := by
  obtain ⟨b, hb, hrun⟩ := h s.sched [] s ⟨s.tmrCnt, s.txReady, rfl⟩
  rw [List.append_nil, runEvents_nil] at hrun
  exact ⟨_, hrun, (hb.reschedule []).untimed_eq⟩

/-! ## The parts of a clock cycle (R248) -/

theorem driveInputs_matches (c : CycleInputs) (s : State) : Matches [.now c.time] s (driveInputs c s) :=
  .event fun _ _ ha => ⟨_, rfl, ha.driveInputs c⟩

theorem cycleReceive_matches (c : CycleInputs) (s : State) :
    Matches (c.rx.toList.map Event.rx) s (cycleReceive c s) := by
  unfold cycleReceive
  cases c.rx with
  | none => exact .none fun _ _ ha => ha
  | some b => exact .event fun _ _ ha => ⟨_, rfl, ha.receiveByte b⟩

/-- The timer counts, which no event does, or fires TICK. -/
theorem cycleTimer_matches {r : Bool} {c : CycleInputs} {s t : State} (h : cycleTimer r c s = .next t) :
    ∃ es, es.Sublist [Event.tick c.samples c.time] ∧ Matches es s t := by
  unfold cycleTimer timerCount at h
  split at h
  · split at h
    · cases h
    · split at h
      · cases h
        exact ⟨[], List.nil_sublist _, .none fun _ _ ha => ha.count _⟩
      · exact ⟨_, List.Sublist.refl _, .event fun _ _ ha => (ha.count 0).execTick h⟩
  · cases h
    exact ⟨[], List.nil_sublist _, .none fun _ _ ha => ha⟩

theorem cycleTake_matches {c : CycleInputs} {s t : State} (h : cycleTake c s = .next t) :
    ∃ es, es.Sublist [Event.take] ∧ Matches es s t := by
  unfold cycleTake at h
  split at h
  · exact ⟨_, List.Sublist.refl _, .event fun _ _ ha => ha.execTake h⟩
  · cases h
    exact ⟨[], List.nil_sublist _, .none fun _ _ ha => ha⟩

theorem cycleEmit_matches {s t : State} (h : cycleEmit s = .next t) :
    ∃ es, es.Sublist [Event.emit] ∧ Matches es s t := by
  unfold cycleEmit at h
  split at h
  · exact ⟨_, List.Sublist.refl _, .event fun _ _ ha => ha.execEmit h⟩
  · cases h
    exact ⟨[], List.nil_sublist _, .none fun _ _ ha => ha⟩

/-- Settles O58: each part of the cycle is matched by its event or by none, and the runs are put together in the cycle's order. -/
theorem clockCycleRefinesEvents : Obligations.ClockCycleRefinesEvents := by
  intro s t c h
  obtain ⟨u, v, hu, hv, ht⟩ := clockCycle_cases h
  obtain ⟨ticks, htick, mtick⟩ := cycleTimer_matches hu
  obtain ⟨takes, htake, mtake⟩ := cycleTake_matches hv
  obtain ⟨emits, hemit, memit⟩ := cycleEmit_matches ht
  have hinputs := (driveInputs_matches c s).append (cycleReceive_matches c _)
  obtain ⟨w, hrun, hw⟩ := (hinputs.append (mtick.append (mtake.append memit))).run
  exact ⟨_, w, (List.Sublist.refl _).append (htick.append (htake.append hemit)), hrun, hw⟩

end Sys2Proof.Machine
end

section
/-! SUPPORT. The host-byte rows: what the decoder reads from a byte, once for every receiver state, and what its encoder writes. -/

namespace Sys2Proof

/-! ## The row of a byte (R211) -/

theorem codeT_ne_codeR : codeT ≠ codeR := by decide

/-- What row a byte is, every branch. -/
theorem classify_cases (m : RxMode) (fatal : Bool) (b : Byte) :
    (b = codeR ∧ classify m fatal b = .resetCmd) ∨
    (b ≠ codeR ∧ (fatal = true ∨ b ≠ codeT ∧ m = .cmd) ∧ classify m fatal b = .ignoredByte b) ∨
    (b = codeT ∧ fatal = false ∧ classify m fatal b = .configCmd) ∨
    (b ≠ codeR ∧ b ≠ codeT ∧ m = .payload ∧ fatal = false ∧ classify m fatal b = .payloadByte b) := by
  unfold classify
  by_cases hR : b = codeR
  · exact .inl ⟨hR, if_pos hR⟩
  · cases fatal with
    | true => exact .inr (.inl ⟨hR, .inl rfl, by simp [hR]⟩)
    | false =>
      by_cases hT : b = codeT
      · exact .inr (.inr (.inl ⟨hT, rfl, by simp [hT, codeT_ne_codeR]⟩))
      · cases m with
        | cmd => exact .inr (.inl ⟨hR, .inr ⟨hT, rfl⟩, by simp [hR, hT]⟩)
        | payload => exact .inr (.inr (.inr ⟨hR, hT, rfl, rfl, by simp [hR, hT]⟩))

/-! ## Which rows a byte can be (the notes of the rows) -/

theorem admitted_configCmd {m : RxMode} {fatal : Bool} : Instr.configCmd.admitted m fatal = true ↔ fatal = false := by
  simp [Instr.admitted]

theorem admitted_payloadByte {m : RxMode} {fatal : Bool} {b : Byte} :
    (Instr.payloadByte b).admitted m fatal = true ↔ b ≠ codeR ∧ b ≠ codeT ∧ m = .payload ∧ fatal = false := by
  simp [Instr.admitted, and_assoc]

theorem admitted_ignoredByte {m : RxMode} {fatal : Bool} {b : Byte} :
    (Instr.ignoredByte b).admitted m fatal = true ↔ b ≠ codeR ∧ (fatal = true ∨ b ≠ codeT ∧ m = .cmd) := by
  simp [Instr.admitted]

theorem classify_admitted (m : RxMode) (fatal : Bool) (b : Byte) : (classify m fatal b).admitted m fatal = true := by
  obtain ⟨_, hc⟩ | ⟨hR, ht, hc⟩ | ⟨_, hf, hc⟩ | ⟨hR, hT, hm, hf, hc⟩ := classify_cases m fatal b
  · rw [hc, Instr.admitted]
  · rw [hc, admitted_ignoredByte]
    exact ⟨hR, ht⟩
  · rw [hc, admitted_configCmd]
    exact hf
  · rw [hc, admitted_payloadByte]
    exact ⟨hR, hT, hm, hf⟩

theorem classify_wf (p : Params) (m : RxMode) (fatal : Bool) (b : Byte) : (classify m fatal b).wf p = true := by
  obtain ⟨_, hc⟩ | ⟨hR, _, hc⟩ | ⟨_, _, hc⟩ | ⟨hR, hT, _, _, hc⟩ := classify_cases m fatal b
  · rw [hc, Instr.wf]
  · rw [hc]
    exact bne_iff_ne.2 hR
  · rw [hc, Instr.wf]
  · rw [hc]
    exact Bool.and_eq_true_iff.2 ⟨bne_iff_ne.2 hR, bne_iff_ne.2 hT⟩

@[simp] theorem encode_classify (m : RxMode) (fatal : Bool) (b : Byte) : encode (classify m fatal b) = [b] := by
  obtain ⟨hb, hc⟩ | ⟨_, _, hc⟩ | ⟨hb, _, hc⟩ | ⟨_, _, _, _, hc⟩ := classify_cases m fatal b
  · rw [hc, hb, encode]
  · rw [hc, encode]
  · rw [hc, hb, encode]
  · rw [hc, encode]

/-- An operation that a host byte can be is one byte long, and is the row of that byte (R96, R211). -/
theorem encode_of_admitted {m : RxMode} {fatal : Bool} {i : Instr} (h : i.admitted m fatal = true) :
    ∃ b, encode i = [b] ∧ encodeEvent i = some (.rx b) ∧ classify m fatal b = i := by
  cases i with
  | resetCmd => exact ⟨codeR, rfl, rfl, if_pos rfl⟩
  | configCmd =>
    rw [admitted_configCmd] at h
    exact ⟨codeT, rfl, rfl, by simp [classify, h, codeT_ne_codeR]⟩
  | payloadByte b =>
    obtain ⟨hR, hT, rfl, rfl⟩ := admitted_payloadByte.1 h
    exact ⟨b, rfl, rfl, by simp [classify, hR, hT]⟩
  | ignoredByte b =>
    obtain ⟨hR, rfl | ⟨hT, rfl⟩⟩ := admitted_ignoredByte.1 h
    · exact ⟨b, rfl, rfl, by simp [classify, hR]⟩
    · exact ⟨b, rfl, rfl, by simp [classify, hR, hT]⟩
  | _ => cases h

/-- What is decoded is the row of the first byte, and that byte is its encoding. -/
theorem encode_of_decode {m : RxMode} {fatal : Bool} {bytes rest : List Byte} {i : Instr}
    (h : decode m fatal bytes = .ok (i, rest)) : ∃ b, bytes = b :: rest ∧ encode i = [b] := by
  cases bytes with
  | nil => cases h
  | cons b bs =>
    cases h
    exact ⟨b, rfl, encode_classify m fatal b⟩

/-- The event of an operation that is neither a host-byte row nor RX_BYTE decodes to it (R102). -/
theorem decodeEvent_of_internal {m : RxMode} {fatal : Bool} {i : Instr} {e : Event} (he : encodeEvent i = some e)
    (h0 : encode i = []) (hrx : ∀ b, i ≠ .rxByte b) : decodeEvent m fatal e = some i := by
  cases i with
  | tick g t =>
    cases he
    rfl
  | take =>
    cases he
    rfl
  | emit =>
    cases he
    rfl
  | rxByte b => exact absurd rfl (hrx b)
  | resetCmd => cases h0
  | configCmd => cases h0
  | payloadByte b => cases h0
  | ignoredByte b => cases h0
  | configure r => cases he
  | reset => cases he
  | append g => cases he
  | ackLine => cases he
  | dataFrame => cases he

/-- Settles O9: an admitted operation is the row of its one byte, and every byte's row is admitted and encodes to the byte. -/
theorem decodeEncodeAgree : Obligations.DecodeEncodeAgree := by
  refine ⟨fun m fatal i rest h => ?_, fun p m fatal b rest => ?_, fun m fatal i e he h => ?_, fun m fatal b => ?_⟩
  · obtain ⟨b, hb, _, hc⟩ := encode_of_admitted h
    rw [hb, List.singleton_append, decode, hc]
  · exact ⟨_, rfl, classify_admitted m fatal b, classify_wf p m fatal b, encode_classify m fatal b⟩
  · obtain hadm | ⟨h0, hrx⟩ := h
    · obtain ⟨b, _, hev, hc⟩ := encode_of_admitted hadm
      cases hev.symm.trans he
      rw [decodeEvent, hc]
    · exact decodeEvent_of_internal he h0 hrx
  · exact ⟨_, _, rfl, rfl, rfl⟩

/-- Settles O10: what a byte string decodes to encodes to its first byte, and the internal operations encode to none. -/
theorem internalOperationsHaveNoEncoding : Obligations.InternalOperationsHaveNoEncoding := by
  intro b r g t i hi
  have h0 : encode i = [] := by
    fin_cases hi <;> rfl
  refine ⟨h0, fun m fatal bytes rest h => ?_⟩
  obtain ⟨c, _, hc⟩ := encode_of_decode h
  rw [h0] at hc
  cases hc

/-- Settles O8: the decoder evaluated on each byte string. -/
theorem hostBytesDecodeToTheirRows : Obligations.HostBytesDecodeToTheirRows :=
  ⟨rfl, rfl, rfl, rfl, rfl, rfl, rfl, .noByte, rfl⟩

/-- Settles O14: every row's arm is RX_BYTE of its byte. -/
theorem receivedByteIsItsRow : Obligations.ReceivedByteIsItsRow := fun s b => (Machine.exec_classify s b).symm

end Sys2Proof
end

section
/-! SUPPORT. Decimal text: a digit string against its value in both directions, the payload of a CONFIGURE command against its
parse, and the texts of the acknowledgment line. -/

namespace Sys2Proof

/-! ## Digit strings and their values (R94, R95) -/

/-- A digit byte is the byte of its value (R93). -/
theorem digitByte_of_isDigit {b : Byte} (h : isDigit b = true) : digitByte (b.toNat - 0x30) = b := by
  obtain ⟨hlo, _⟩ := digit_bound h
  rw [digitByte, Nat.add_sub_cancel' hlo, BitVec.ofNat_toNat, BitVec.setWidth_eq]

/-- The `k` fixed digits of a number depend on its `k` lowest digits alone. -/
theorem fixedDigits_add_mul (k a n : Nat) : fixedDigits k (a * 10 ^ k + n) = fixedDigits k n := by
  suffices h : ∀ j, j ≤ k → fixedDigits j (a * 10 ^ k + n) = fixedDigits j n from h k le_rfl
  intro j
  induction j with
  | zero => exact fun _ => rfl
  | succ j ih =>
    intro hj
    obtain ⟨d, rfl⟩ := Nat.exists_eq_add_of_le hj
    have hsplit : a * 10 ^ (j + 1 + d) + n = 10 ^ j * (10 * (a * 10 ^ d)) + n := by ring
    rw [fixedDigits, fixedDigits, ih (by omega), hsplit, Nat.mul_add_div (by positivity), Nat.mul_add_mod]

/-- Writing the value of a digit string at its length gives the string back. -/
theorem fixedDigits_decValue {l : List Byte} (h : l.all isDigit = true) : fixedDigits l.length (decValue l) = l := by
  induction l with
  | nil => rfl
  | cons d ds ih =>
    simp only [List.all_cons, Bool.and_eq_true] at h
    obtain ⟨hd, hds⟩ := h
    obtain ⟨_, h9⟩ := digit_bound hd
    have htop : ((d.toNat - 0x30) * 10 ^ ds.length + decValue ds) / 10 ^ ds.length = d.toNat - 0x30 := by
      rw [Nat.mul_comm, Nat.mul_add_div (by positivity), Nat.div_eq_of_lt (decValue_lt ds hds), Nat.add_zero]
    rw [decValue, List.length_cons, fixedDigits, htop, Nat.mod_eq_of_lt (by omega), digitByte_of_isDigit hd,
      fixedDigits_add_mul, ih hds]

/-- The sum of R94, over the positions. -/
theorem decValue_eq_sum (l : List Byte) :
    decValue l = ((List.range l.length).map (fun k => (l[k]!.toNat - 0x30) * 10 ^ (l.length - 1 - k))).sum := by
  induction l with
  | nil => rfl
  | cons d ds ih =>
    rw [decValue, ih, List.length_cons, List.range_succ_eq_map, List.map_cons, List.sum_cons, List.map_map]
    congr 3
    funext k
    simp [Nat.sub_sub, Nat.add_comm 1]

/-! ## The payload and its parse (R92, R93, R212) -/

/-- The three parts that `parse` reads of a payload, where its two fields stand around `'F'` (R92). -/
theorem payload_fields {p : Vector Byte 14} {ds fs : List Byte} (hp : p.toList = ds ++ codeF :: fs) (hds : ds.length = 10) :
    p.toList.take 10 = ds ∧ p.toList[10]? = some codeF ∧ p.toList.drop 11 = fs := by
  rw [hp, show 11 = ds.length + 1 by omega, ← hds]
  exact ⟨List.take_left, by simp, by simp [List.drop_append]⟩

/-- A payload is well-formed iff it is 10 digits, `'F'` and 3 digits (R93). -/
theorem payloadWf_iff {p : Vector Byte 14} : payloadWf p = true ↔
    ∃ ds fs, p.toList = ds ++ codeF :: fs ∧ ds.length = 10 ∧ fs.length = 3 ∧ ds.all isDigit = true ∧ fs.all isDigit = true := by
  constructor
  · intro h
    simp only [payloadWf, Bool.and_eq_true, beq_iff_eq] at h
    obtain ⟨⟨hds, hF⟩, hfs⟩ := h
    refine ⟨_, _, ?_, by simp, by simp, hds, hfs⟩
    obtain ⟨h10, hget⟩ := List.getElem?_eq_some_iff.1 hF
    rw [← hget, ← List.drop_eq_getElem_cons h10, List.take_append_drop]
  · rintro ⟨ds, fs, hp, hds, _, hd, hf⟩
    obtain ⟨htake, hF, hdrop⟩ := payload_fields hp hds
    rw [payloadWf, htake, hF, hdrop, hd, hf]
    rfl

/-- A well-formed payload parses to the values of its two fields (R212). -/
theorem parse_of_wf {p : Vector Byte 14} (h : payloadWf p = true) :
    parse p = .ok (BitVec.ofNat 64 (decValue (p.toList.take 10))) (BitVec.ofNat 10 (decValue (p.toList.drop 11))) := by
  rw [parse, if_pos h]

theorem parse_of_not_wf {p : Vector Byte 14} (h : ¬ payloadWf p = true) : parse p = .malformed := by
  rw [parse, if_neg h]

/-- A payload of digits around `'F'` parses to what the digits are worth (R212). -/
theorem parse_of_digits {p : Vector Byte 14} {ds fs : List Byte} (hp : p.toList = ds ++ codeF :: fs) (hds : ds.length = 10)
    (hfs : fs.length = 3) (hd : ds.all isDigit = true) (hf : fs.all isDigit = true) :
    parse p = .ok (BitVec.ofNat 64 (decValue ds)) (BitVec.ofNat 10 (decValue fs)) := by
  obtain ⟨htake, _, hdrop⟩ := payload_fields hp hds
  rw [parse_of_wf (payloadWf_iff.2 ⟨ds, fs, hp, hds, hfs, hd, hf⟩), htake, hdrop]

theorem payloadWf_of_parse {p : Vector Byte 14} {e : BitVec 64} {f : BitVec 10} (h : parse p = .ok e f) :
    payloadWf p = true := by
  by_contra hw
  rw [parse_of_not_wf hw] at h
  cases h

theorem toList_encodePayload (e f : Nat) : (encodePayload e f).toList = fixedDigits 10 e ++ codeF :: fixedDigits 3 f := rfl

theorem parse_encodePayload {e f : Nat} (he : e ≤ 9999999999) (hf : f ≤ 999) :
    parse (encodePayload e f) = .ok (BitVec.ofNat 64 e) (BitVec.ofNat 10 f) := by
  rw [parse_of_digits (toList_encodePayload e f) (length_fixedDigits _ _) (length_fixedDigits _ _) (all_fixedDigits _ _)
    (all_fixedDigits _ _), decValue_fixedDigits, decValue_fixedDigits, Nat.mod_eq_of_lt (by omega), Nat.mod_eq_of_lt (by omega)]

/-- The values that a payload of 10 and 3 digits parses to fit EPOCH and FREQ (R10). -/
theorem toNat_ofNat_decValue {w n : Nat} {l : List Byte} (hl : l.length = n) (h : l.all isDigit = true) (hw : 10 ^ n ≤ 2 ^ w) :
    (BitVec.ofNat w (decValue l)).toNat = decValue l := by
  have hlt := decValue_lt l h
  rw [hl] at hlt
  rw [BitVec.toNat_ofNat, Nat.mod_eq_of_lt (by omega)]

theorem encodePayload_of_parse {p : Vector Byte 14} {e : BitVec 64} {f : BitVec 10} (h : parse p = .ok e f) :
    p = encodePayload e.toNat f.toNat := by
  obtain ⟨ds, fs, hp, hds, hfs, hd, hf⟩ := payloadWf_iff.1 (payloadWf_of_parse h)
  cases (parse_of_digits hp hds hfs hd hf).symm.trans h
  rw [← Vector.toList_inj, toList_encodePayload, toNat_ofNat_decValue hds hd (by norm_num),
    toNat_ofNat_decValue hfs hf (by norm_num), ← hds, ← hfs, fixedDigits_decValue hd, fixedDigits_decValue hf, hp]

/-- Settles O12: the payload is digit strings around `'F'`, and a digit string and its value determine each other. -/
theorem payloadParseEncodeAgree : Obligations.PayloadParseEncodeAgree :=
  ⟨fun _ _ he hf => parse_encodePayload he hf, fun _ _ _ h =>
    have ⟨he, hf⟩ := parse_bounds h
    ⟨he, hf, encodePayload_of_parse h⟩⟩

/-! ## The parse, byte by byte (R93, R94) -/

theorem isDigit_iff {b : Byte} : isDigit b = true ↔ 0x30 ≤ b.toNat ∧ b.toNat ≤ 0x39 := by simp [isDigit]

theorem all_take_toList {p : Vector Byte 14} {n : Nat} :
    (p.toList.take n).all isDigit = true ↔ ∀ k : Fin 14, k.val < n → 0x30 ≤ p[k].toNat ∧ p[k].toNat ≤ 0x39 := by
  simp only [List.all_eq_true, List.mem_take_iff_getElem, ← isDigit_iff]
  constructor
  · exact fun h k hk => h _ ⟨k.val, by simp; omega, by simp⟩
  · rintro h _ ⟨k, hk, rfl⟩
    simp only [Vector.length_toList, lt_min_iff] at hk
    simpa using h ⟨k, hk.2⟩ hk.1

theorem all_drop_toList {p : Vector Byte 14} {n : Nat} :
    (p.toList.drop n).all isDigit = true ↔ ∀ k : Fin 14, n ≤ k.val → 0x30 ≤ p[k].toNat ∧ p[k].toNat ≤ 0x39 := by
  simp only [List.all_eq_true, List.mem_drop_iff_getElem, ← isDigit_iff]
  constructor
  · exact fun h k hk => h _ ⟨k.val - n, by simp; omega, by simp [Nat.add_sub_cancel' hk]⟩
  · rintro h _ ⟨k, hk, rfl⟩
    simp only [Vector.length_toList] at hk
    simpa using h ⟨n + k, by omega⟩ (Nat.le_add_right n k)

theorem payloadWf_bytes {p : Vector Byte 14} : payloadWf p = true ↔
    (∀ k : Fin 14, k.val < 10 → 0x30 ≤ p[k].toNat ∧ p[k].toNat ≤ 0x39) ∧ p[10] = 0x46#8 ∧
      (∀ k : Fin 14, 11 ≤ k.val → 0x30 ≤ p[k].toNat ∧ p[k].toNat ≤ 0x39) := by
  have hF : (p.toList[10]? == some codeF) = true ↔ p[10] = 0x46#8 := by simp [codeF]
  rw [payloadWf, Bool.and_eq_true, Bool.and_eq_true, all_take_toList, all_drop_toList, hF, and_assoc]

/-- The value of the `n` bytes from position `i` on, over the positions of the whole payload. -/
theorem decValue_slice (p : Vector Byte 14) {i n : Nat} (h : i + n ≤ 14) :
    decValue ((p.toList.drop i).take n) =
      ((List.range n).map (fun k => (p[i + k]!.toNat - 0x30) * 10 ^ (n - 1 - k))).sum := by
  have hlen : ((p.toList.drop i).take n).length = n := by simp; omega
  rw [decValue_eq_sum, hlen]
  refine congrArg List.sum (List.map_congr_left fun k hk => ?_)
  have hk' : k < n := List.mem_range.1 hk
  have hget : ((p.toList.drop i).take n)[k]! = p[i + k]! := by
    rw [getElem!_pos _ k (by rw [hlen]; exact hk'), getElem!_pos p (i + k) (by omega), List.getElem_take, List.getElem_drop,
      Vector.getElem_toList]
  rw [hget]

/-- Settles O11: the check is R93's, and the two values are the digit sums of their bytes. -/
theorem parseRule : Obligations.ParseRule := by
  intro p good
  refine ⟨fun hgood => ⟨_, _, parse_of_wf (payloadWf_bytes.2 hgood), ?_⟩, fun hbad =>
    parse_of_not_wf fun hw => hbad (payloadWf_bytes.1 hw)⟩
  obtain ⟨hds, _, hfs⟩ := hgood
  have htake : p.toList.take 10 = (p.toList.drop 0).take 10 := rfl
  have hdrop : p.toList.drop 11 = (p.toList.drop 11).take 3 := (List.take_of_length_le (by simp)).symm
  rw [toNat_ofNat_decValue (n := 10) (by simp) (all_take_toList.2 hds) (by norm_num),
    toNat_ofNat_decValue (n := 3) (by simp) (all_drop_toList.2 hfs) (by norm_num), htake, hdrop,
    decValue_slice p (by norm_num), decValue_slice p (by norm_num)]
  simp only [Nat.zero_add, true_and]

end Sys2Proof

namespace Sys2Proof.Machine

/-! ## The acknowledgment line's texts (R218) -/

theorem decValue_append_digit (l : List Byte) {d : Nat} (hd : d < 10) :
    decValue (l ++ [digitByte d]) = decValue l * 10 + d := by
  induction l with
  | nil => simp [decValue, (digitByte_value d hd).2]
  | cons x xs ih =>
    rw [List.cons_append, decValue, ih, decValue, List.length_append, List.length_singleton, pow_succ]
    ring

/-- With fuel enough, the digits are worth the number. -/
theorem decValue_decDigits {fuel n : Nat} (h : n < fuel) : decValue (decDigits fuel n) = n := by
  induction fuel generalizing n with
  | zero => omega
  | succ fuel ih =>
    rw [decDigits]
    split
    · rename_i hn
      simpa [decValue] using decValue_append_digit [] hn
    · rw [decValue_append_digit _ (Nat.mod_lt n (by norm_num)), ih (by omega)]
      omega

theorem all_decDigits (fuel n : Nat) : (decDigits fuel n).all isDigit = true := by
  induction fuel generalizing n with
  | zero => rfl
  | succ fuel ih =>
    rw [decDigits]
    split
    · rename_i hn
      simp [(digitByte_value n hn).1]
    · simp only [List.all_append, ih, List.all_cons, (digitByte_value _ (Nat.mod_lt n (by norm_num : 0 < 10))).1, List.all_nil,
        Bool.and_true]

theorem decDigits_ne_nil {fuel : Nat} (h : 0 < fuel) (n : Nat) : decDigits fuel n ≠ [] := by
  obtain ⟨fuel, rfl⟩ := Nat.exists_eq_succ_of_ne_zero h.ne'
  rw [decDigits]
  split <;> simp

/-- A leading zero is the text of 0 (R218 "without leading zeros"). -/
theorem eq_zero_of_leading_zero {fuel n : Nat} (h : n < fuel) (h0 : (decDigits fuel n).head? = some 0x30#8) : n = 0 := by
  induction fuel generalizing n with
  | zero => omega
  | succ fuel ih =>
    rw [decDigits] at h0
    split at h0
    · rename_i hn
      have hval := (digitByte_value n hn).2
      rw [Option.some_inj.1 h0] at hval
      simpa using hval.symm
    · rw [List.head?_append_of_ne_nil _ (decDigits_ne_nil (by omega) _)] at h0
      have := ih (by omega) h0
      omega

/-- Settles O20: the line is sent as it is written out, and its digit texts are worth their numbers. -/
theorem ackLineRule : Obligations.AckLineRule := by
  refine ⟨fun s => rfl, fun n => ⟨?_, all_decDigits _ _, decDigits_ne_nil (Nat.succ_pos n) n, fun h0 => ?_⟩, fun n hn => ?_⟩
  · exact decValue_decDigits (Nat.lt_succ_self n)
  · obtain rfl := eq_zero_of_leading_zero (Nat.lt_succ_self n) h0
    exact ⟨rfl, rfl⟩
  · refine ⟨length_fixedDigits 3 n, ?_, all_fixedDigits 3 n⟩
    rw [dec3Text, decValue_fixedDigits, Nat.mod_eq_of_lt (by omega)]

end Sys2Proof.Machine
end

section
/-! SUPPORT. The 15 bytes of a CONFIGURE command on the host link (R92, R211, R214): the marker starts a payload, each byte is
stored behind the ones before it, and the 14th performs CONFIGURE of their parse. -/

namespace Sys2Proof.Machine

/-! ## The receiver's branches on a payload (R211) -/

theorem receiveByte_codeT {s : State} (hf : s.fatal = false) : receiveByte codeT s = startPayload s := by
  simp [receiveByte, codeT_ne_codeR, hf]

theorem receiveByte_payload {b : Byte} {s : State} (hR : b ≠ codeR) (hT : b ≠ codeT) (hf : s.fatal = false)
    (hm : s.rxMode = .payload) : receiveByte b s = collectPayload b s := by
  simp [receiveByte, hR, hT, hf, hm]

theorem collectPayload_more {s : State} (h : s.rxCnt ≠ 13) (b : Byte) :
    collectPayload b s = { storePayload b s with rxCnt := s.rxCnt + 1 } := if_neg h

theorem collectPayload_last {s : State} (h : s.rxCnt = 13) (b : Byte) :
    collectPayload b s = configureWith (parse (storePayload b s).rxBuf) (receiverToCmd (storePayload b s)) := if_pos h

@[simp] theorem receiveByte_sched (b : Byte) (s : State) : (receiveByte b s).sched = s.sched :=
  (Retimed.receiveByte (es := s.sched) ⟨s.tmrCnt, s.txReady, rfl⟩ b).sched_eq

theorem runEvents_nil_of_sched {s : State} (h : s.sched = []) : runEvents [] s = .next s := by
  rw [runEvents_nil, ← h]

/-- A run that begins with a host byte goes on from where RX_BYTE leads. -/
theorem runEvents_rx (b : Byte) (es : List Event) (s : State) :
    runEvents (.rx b :: es) s = runEvents es (receiveByte b { s with sched := es }) :=
  runEvents_cons rfl (receiveByte_sched _ _)

/-! ## A payload as it arrives -/

/-- The receiver is collecting a payload and has stored the first RX_CNT bytes of `p`. -/
structure Collecting (p : Vector Byte 14) (s : State) : Prop where
  fatal : s.fatal = false
  mode : s.rxMode = .payload
  stored : ∀ k : Fin 14, k < s.rxCnt → s.rxBuf[k] = p[k]

theorem collecting_startPayload (p : Vector Byte 14) {s : State} (hf : s.fatal = false) : Collecting p (startPayload s) :=
  ⟨hf, rfl, fun k hk => absurd hk (Fin.not_lt_zero k)⟩

theorem Collecting.reschedule {p : Vector Byte 14} {s : State} (h : Collecting p s) (es : List Event) :
    Collecting p { s with sched := es } := { h with }

/-- Storing the next byte of `p` extends what is stored by it. -/
theorem Collecting.storePayload_rxBuf {p : Vector Byte 14} {s : State} (h : Collecting p s) {k : Fin 14} (hk : k ≤ s.rxCnt) :
    (storePayload p[s.rxCnt] s).rxBuf[k] = p[k] := by
  simp only [storePayload, Fin.getElem_fin, Vector.getElem_set]
  split
  · simp only [‹s.rxCnt.val = k.val›]
  · rename_i hne
    exact h.stored k (lt_of_le_of_ne hk fun he => hne (by rw [he]))

section
variable {p : Vector Byte 14} (hp : ∀ k : Fin 14, p[k] ≠ codeR ∧ p[k] ≠ codeT) {s : State} (h : Collecting p s)
include hp h

theorem Collecting.receiveByte_more (hc : s.rxCnt ≠ 13) :
    receiveByte p[s.rxCnt] s = { storePayload p[s.rxCnt] s with rxCnt := s.rxCnt + 1 } := by
  obtain ⟨hR, hT⟩ := hp s.rxCnt
  rw [receiveByte_payload hR hT h.fatal h.mode, collectPayload_more hc]

/-- The 14th byte performs CONFIGURE, and RX_BUF holds the whole payload. -/
theorem Collecting.receiveByte_last (hc : s.rxCnt = 13) :
    receiveByte p[s.rxCnt] s = configureWith (parse p) { s with rxMode := .cmd, rxCnt := 0, rxBuf := p } := by
  obtain ⟨hR, hT⟩ := hp s.rxCnt
  have hbuf : (storePayload p[s.rxCnt] s).rxBuf = p :=
    Vector.ext fun k hk => h.storePayload_rxBuf (k := ⟨k, hk⟩) (by rw [hc, Fin.le_def]; simp; omega)
  rw [receiveByte_payload hR hT h.fatal h.mode, collectPayload_last hc, hbuf]
  congr 1
  rw [receiverToCmd, hbuf]
  rfl

end

theorem rxCnt_succ_val {s : State} (hc : s.rxCnt.val < 13) : (s.rxCnt + 1 : Fin 14).val = s.rxCnt.val + 1 := by
  simp [Fin.val_add]; omega

theorem Collecting.next {p : Vector Byte 14} {s : State} (h : Collecting p s) (hc : s.rxCnt.val < 13) :
    Collecting p { storePayload p[s.rxCnt] s with rxCnt := s.rxCnt + 1 } := by
  refine ⟨h.fatal, h.mode, fun k hk => h.storePayload_rxBuf ?_⟩
  rw [Fin.lt_def, rxCnt_succ_val hc] at hk
  exact Fin.le_def.2 (by omega)

/-- The bytes of `p` that are still to come perform CONFIGURE of it at the last. -/
theorem Collecting.runEvents_drop {p : Vector Byte 14} (hp : ∀ k : Fin 14, p[k] ≠ codeR ∧ p[k] ≠ codeT) {n : Nat} {s : State}
    (h : Collecting p s) (hn : s.rxCnt.val + n = 13) :
    runEvents ((p.toList.drop s.rxCnt).map Event.rx) s =
      .next (configureWith (parse p) { s with sched := [], rxMode := .cmd, rxCnt := 0, rxBuf := p }) := by
  induction n generalizing s with
  | zero =>
    have hlast : p.toList.drop s.rxCnt = [p[s.rxCnt]] := by
      rw [List.drop_eq_getElem_cons (by simp), List.drop_eq_nil_of_le (by simp; omega), Vector.getElem_toList, Fin.getElem_fin]
    have hrun := (h.reschedule []).receiveByte_last hp (Fin.ext hn)
    rw [hlast, List.map_singleton, runEvents_rx, runEvents_nil_of_sched (receiveByte_sched _ _)]
    exact congrArg Host.Outcome.next hrun
  | succ n ih =>
    have hlt : s.rxCnt.val < 13 := by omega
    have hrest : p.toList.drop s.rxCnt = p[s.rxCnt] :: p.toList.drop (s.rxCnt + 1 : Fin 14) := by
      rw [List.drop_eq_getElem_cons (by simp), rxCnt_succ_val hlt, Vector.getElem_toList, Fin.getElem_fin]
    have hstep := (h.reschedule ((p.toList.drop (s.rxCnt + 1 : Fin 14)).map Event.rx)).receiveByte_more hp
      (fun h13 => by rw [Fin.ext_iff] at h13; exact hlt.ne h13)
    rw [hrest, List.map_cons, runEvents_rx]
    exact (congrArg _ hstep).trans (ih ((h.reschedule _).next hlt) (by rw [rxCnt_succ_val hlt]; omega))

/-! ## The command (R92) -/

/-- A digit is neither `'R'` nor `'T'`. -/
theorem isDigit_ne_command {b : Byte} (h : isDigit b = true) : b ≠ codeR ∧ b ≠ codeT := by
  constructor
  · rintro rfl
    exact absurd h (by decide)
  · rintro rfl
    exact absurd h (by decide)

/-- A written payload is digits and `'F'`, so none of its bytes is a command (R91, R92). -/
theorem encodePayload_ne_command (e f : Nat) (k : Fin 14) : (encodePayload e f)[k] ≠ codeR ∧ (encodePayload e f)[k] ≠ codeT := by
  have hk : (encodePayload e f)[k] ∈ (encodePayload e f).toList := by simp
  generalize (encodePayload e f)[k] = b at hk ⊢
  rw [toList_encodePayload, List.mem_append, List.mem_cons] at hk
  obtain hd | rfl | hd := hk
  · exact isDigit_ne_command (List.all_eq_true.1 (all_fixedDigits 10 e) b hd)
  · exact ⟨by decide, by decide⟩
  · exact isDigit_ne_command (List.all_eq_true.1 (all_fixedDigits 3 f) b hd)

/-- Settles O17: the marker starts a payload, whose 14 bytes perform CONFIGURE of what they parse to. -/
theorem commandBytesPerformConfigure : Obligations.CommandBytesPerformConfigure := by
  intro s e f hs he hf
  have hstart := receiveByte_codeT (s := { s with sched := (encodePayload e f).toList.map Event.rx }) hs
  have hrun := (collecting_startPayload (encodePayload e f)
    (s := { s with sched := (encodePayload e f).toList.map Event.rx }) hs).runEvents_drop (encodePayload_ne_command e f)
    (n := 13) rfl
  rw [parse_encodePayload he hf] at hrun
  rw [encodeConfigure, List.map_cons, runEvents_rx, hstart]
  exact hrun

end Sys2Proof.Machine
end

section
/-! SUPPORT. A whole frame through an empty pipeline (R97, R121, R124, R162): the ticks write their groups one behind the other,
the last one swaps the slots, TAKE latches the frame and the EMITs send its words. -/

namespace Sys2Proof.Machine

/-! ## Groups one behind the other (R121) -/

theorem storeGroup_append (p : Params) (k : Slot) (g h : List Word) (i : Nat) (m : Memory) :
    storeGroup p k (g ++ h) i m = storeGroup p k h (i + g.length) (storeGroup p k g i m) := by
  induction g generalizing i m with
  | nil => rfl
  | cons w ws ih => rw [List.cons_append, storeGroup, ih, storeGroup, List.length_cons, Nat.add_assoc, Nat.add_comm 1]

/-- A slot written from its first word on holds what was written. -/
theorem map_slotWord_storeGroup (s : State) (k : Slot) {w : List Word} (h : w.length ≤ s.params.bufferSize) :
    (List.range w.length).map (slotWord { s with slots := storeGroup s.params k w 0 s.slots } k) = w := by
  refine List.ext_getElem (by simp) fun i _ hi => ?_
  simpa using slotWord_storeGroup s k w 0 i (by omega) hi

/-! ## Ticks into an empty pipeline -/

theorem overwritesAny_not_busy {s : State} (hb : s.encBusy = false) (i n : Nat) : overwritesAny s i n = false := by
  simp [overwritesAny, overwritesUnsent, hb]

/-- The boundary update touches the time registers alone (R146). -/
theorem noteBoundary_times (t : Time) (s : State) : ∃ a b, noteBoundary t s = { s with ts := a, tprev := b } := by
  unfold noteBoundary
  split
  · exact ⟨_, _, rfl⟩
  · exact ⟨s.ts, s.tprev, rfl⟩

/-- While nothing is being sent, TICK writes its group and goes on to the swap or the cursor, with no overrun of case 2. -/
theorem execTick_not_busy {g : List Word} {s : State} (ha : s.phase = .acquiring) (hb : s.encBusy = false)
    (hg : g.length = s.params.channels) (hc : s.cursor + s.params.channels ≤ s.osize) (hB : s.osize ≤ s.params.bufferSize)
    (u : Time) : ∃ a b, execTick g u s = .next (finishAppend
      { s with ts := a, tprev := b, slots := storeGroup s.params s.active g s.cursor s.slots }) := by
  obtain ⟨a, b, hn⟩ := noteBoundary_times u s
  have happ := appendGroup_eq g { s with ts := a, tprev := b } hg hc (hc.trans hB)
  rw [overwritesAny_not_busy (by exact hb), Bool.or_false] at happ
  exact ⟨a, b, by rw [execTick_acquiring ha, hn, happ]⟩

theorem finishAppend_more {s : State} (h : s.cursor + s.params.channels ≠ s.osize) :
    finishAppend s = { s with cursor := s.cursor + s.params.channels } := if_neg h

/-- The swap drops no frame where none was ready (R121). -/
theorem finishAppend_full {s : State} (h : s.cursor + s.params.channels = s.osize) (hr : s.ready = false) :
    finishAppend s = { s with ready := true, active := s.active.other, cursor := 0 } := by
  rw [finishAppend, if_pos h, noteDrop_eq, hr, Bool.or_false]
  rfl

/-- The state with the words `w` written behind the cursor, their frame complete and ready, the time registers at `a` and `b`. -/
def frameReady (w : List Word) (a b : Time) (s : State) : State :=
  { s with ts := a, tprev := b, slots := storeGroup s.params s.active w s.cursor s.slots
           ready := true, active := s.active.other, cursor := 0 }

/-- The ticks that complete a frame leave it ready in the slot they have written, and OVR as it was. -/
theorem ticks_match {s : State} (gs : List (List Word × Time)) (hne : gs ≠ []) (ha : s.phase = .acquiring)
    (hr : s.ready = false) (hb : s.encBusy = false) (hC : 1 ≤ s.params.channels) (hB : s.osize ≤ s.params.bufferSize)
    (hg : ∀ g ∈ gs, g.1.length = s.params.channels) (hlen : s.cursor + gs.length * s.params.channels = s.osize) :
    ∃ a b, Matches (gs.map (fun g => Event.tick g.1 g.2)) s (frameReady (gs.flatMap Prod.fst) a b s) := by
  induction gs generalizing s with
  | nil => exact absurd rfl hne
  | cons g gs ih =>
    obtain ⟨hlg, hgs⟩ := List.forall_mem_cons.1 hg
    rw [List.length_cons, Nat.succ_mul] at hlen
    obtain ⟨a, b, htick⟩ := execTick_not_busy ha hb hlg (by omega) hB g.2
    have hfirst := Matches.event (e := .tick g.1 g.2) fun _ _ hs => hs.execTick htick
    cases gs with
    | nil =>
      rw [finishAppend_full (by simpa using hlen) (by exact hr)] at hfirst
      refine ⟨a, b, ?_⟩
      rw [List.flatMap_singleton]
      exact hfirst
    | cons g' gs =>
      rw [List.length_cons, Nat.succ_mul] at hlen
      rw [finishAppend_more (by simp only; omega)] at hfirst
      have hnext : s.cursor + s.params.channels + (g' :: gs).length * s.params.channels = s.osize := by
        rw [List.length_cons, Nat.succ_mul]
        omega
      obtain ⟨a', b', hrest⟩ := ih
        (s := { s with ts := a, tprev := b, slots := storeGroup s.params s.active g.1 s.cursor s.slots
                       cursor := s.cursor + s.params.channels })
        (List.cons_ne_nil _ _) ha hr hb hC hB hgs hnext
      refine ⟨a', b', ?_⟩
      rw [frameReady, List.flatMap_cons, storeGroup_append, hlg]
      exact hfirst.append hrest

/-! ## The drain of the frame (R123, R163) -/

theorem take_matches {s : State} (hr : s.ready = true) (hb : s.encBusy = false) : Matches [.take] s (latchFrame s) :=
  .event fun _ _ hs => hs.execTake (if_pos (takeEnabled_iff.2 ⟨hr, hb⟩))

/-- The event `emit` is EMIT's body while a frame is being sent. -/
theorem emit_matches {s t : State} (hb : s.encBusy = true) (h : emitByte s = .next t) : Matches [.emit] s t :=
  .event fun _ a hs => by
    rw [runEvent, execEmit_enabled (s := { a with txReady := true }) (hs.encBusy_eq.trans hb) rfl]
    exact hs.driveTxReady.emitByte h

/-- EMIT's body moves to the next position, or ends the frame at its last byte (R163). -/
theorem emitByte_position {s t : State} (h : emitByte s = .next t) :
    (s.encPos + 1 = 4 + 2 * s.encLen ∧ t.encPos = 0) ∨
    (t.encPos = s.encPos + 1 ∧ t.encLen = s.encLen ∧ t.encBusy = s.encBusy) := by
  obtain ⟨b, hi, rfl, _⟩ := emitByte_cases h
  by_cases hlast : s.encPos + 1 = 4 + 2 * s.encLen
  · rw [advanceEncoder_last (by exact hlast)]
    exact .inl ⟨hlast, rfl⟩
  · rw [advanceEncoder_more (by exact hlast)]
    exact .inr ⟨rfl, rfl, rfl⟩

/-- EMIT's body runs as one event a byte, up to the end of the frame. -/
theorem emits_match {n : Nat} {s t : State} (hb : n ≠ 0 → s.encBusy = true) (hn : s.encPos + n ≤ 4 + 2 * s.encLen)
    (h : emitMany n s = .next t) : Matches (List.replicate n .emit) s t := by
  induction n generalizing s with
  | zero =>
    cases h
    exact .none fun _ _ hs => hs
  | succ n ih =>
    obtain ⟨u, hbyte, hrest⟩ := andThen_eq_next.1 h
    have hbusy := hb n.succ_ne_zero
    obtain ⟨hlast, hpos⟩ | ⟨hpos, hlen, hkeep⟩ := emitByte_position hbyte
    · exact (emit_matches hbusy hbyte).append (ih (fun hn0 => by omega) (by omega) hrest)
    · exact (emit_matches hbusy hbyte).append (ih (fun _ => hkeep.trans hbusy) (by omega) hrest)

/-- TAKE and one EMIT a byte put the ready frame on the link and leave the encoder idle. -/
theorem drain_matches {s : State} (hr : s.ready = true) (hb : s.encBusy = false) (hB : s.osize ≤ s.params.bufferSize) :
    ∃ hi, Matches (.take :: List.replicate (4 + 2 * s.osize) .emit) s
      { latchFrame s with linkOut := s.linkOut ++ frameBytes ((List.range s.osize).map (slotWord s s.active.other))
                          encBusy := false, encPos := 0, encHi := hi } := by
  have hn : (latchFrame s).encPos + (3 + 2 * s.osize + 1) = 4 + 2 * (latchFrame s).encLen := by
    rw [latchFrame_encPos, latchFrame_encLen]
    omega
  obtain ⟨hi, hsend⟩ := emitMany_pending (s := latchFrame s) hB hn
  have hemits := emits_match (fun _ => rfl) hn.le hsend
  rw [show 3 + 2 * s.osize + 1 = 4 + 2 * s.osize by omega] at hemits
  exact ⟨hi, (take_matches hr hb).append hemits⟩

/-- The words of the ready frame are those of the ticks. -/
theorem words_frameReady {s : State} {w : List Word} (hw : w.length = s.osize) (hc : s.cursor = 0)
    (hB : s.osize ≤ s.params.bufferSize) (a b : Time) :
    (List.range s.osize).map (slotWord (frameReady w a b s) (frameReady w a b s).active.other) = w := by
  have hmap := map_slotWord_storeGroup s s.active (w := w) (by omega)
  rw [hw, ← hc] at hmap
  rw [frameReady, other_other]
  exact hmap

theorem length_ticked {gs : List (List Word × Time)} {n : Nat} (h : ∀ g ∈ gs, g.1.length = n) :
    (gs.flatMap Prod.fst).length = gs.length * n := by
  rw [List.length_flatMap, List.map_congr_left h, List.map_const', List.sum_replicate, smul_eq_mul]

/-- Settles O56: the ticks make the frame ready and the drain sends it; what the clock alone writes plays no part. -/
theorem tickedSamplesReachTheLink : Obligations.TickedSamplesReachTheLink := by
  intro s gs hs ha hc hr hb hg hlen
  obtain ⟨hCO, hB, _, _, _⟩ := hs.acquiring ha
  obtain ⟨hC, _⟩ := params_of_wf hs.params_wf
  have hne : gs ≠ [] := by
    rintro rfl
    rw [List.length_nil, Nat.zero_mul] at hlen
    omega
  obtain ⟨a, b, hticks⟩ := ticks_match gs hne ha hr hb hC hB hg (by rw [hc, Nat.zero_add, hlen])
  obtain ⟨hi, hdrain⟩ := drain_matches (s := frameReady (gs.flatMap Prod.fst) a b s) rfl hb hB
  obtain ⟨t, hrun, ht⟩ := (hticks.append hdrain).run
  have hwords := words_frameReady ((length_ticked hg).trans hlen) hc hB a b
  refine ⟨t, hrun, ?_, (congrArg State.ovr ht :), (congrArg State.ready ht :), (congrArg State.encBusy ht :),
    (congrArg State.cursor ht :), (congrArg State.active ht :)⟩
  refine (congrArg State.linkOut ht :).trans ?_
  exact congrArg (fun w => s.linkOut ++ frameBytes w) hwords

end Sys2Proof.Machine
end

section
/-! SUPPORT. The frame buffer and the encoder by what they write (R121, R123, R163, R218): APPEND with its overruns and its swap, TAKE,
and the fields that the sampler and the drain engine leave alone. -/

namespace Sys2Proof.Machine

/-! ## APPEND (R121) -/

/-- The swap records a drop exactly if the ready frame before it was never taken. -/
theorem finishAppend_swap {s : State} (h : s.cursor + s.params.channels = s.osize) :
    finishAppend s = { s with ovr := s.ovr || s.ready, ready := true, active := s.active.other, cursor := 0 } := by
  rw [finishAppend, if_pos h, noteDrop_eq]
  rfl

theorem overwritesUnsent_iff {s : State} {i : Nat} : overwritesUnsent s i = true ↔
    s.encBusy = true ∧ s.encSlot = s.active ∧ i < s.encLen ∧ s.encPos ≤ 4 + 2 * i := by
  simp [overwritesUnsent, and_assoc]

theorem overwritesAny_iff {s : State} {i n : Nat} : overwritesAny s i n = true ↔
    ∃ c, c < n ∧ s.encBusy = true ∧ s.encSlot = s.active ∧ i + c < s.encLen ∧ s.encPos ≤ 4 + 2 * (i + c) := by
  simp [overwritesAny, overwritesUnsent_iff]

/-- OVR after APPEND: set before, or a dropped frame (E5), or an overrun of case 2 (E6). -/
theorem finishAppend_afterGroup_ovr (g : List Word) (s : State) :
    (finishAppend (afterGroup g s)).ovr = true ↔ s.ovr = true ∨
      (s.cursor + s.params.channels = s.osize ∧ s.ready = true) ∨
      overwritesAny s s.cursor s.params.channels = true := by
  by_cases hfull : s.cursor + s.params.channels = s.osize
  · rw [finishAppend_swap (by exact hfull)]
    simp only [afterGroup, Bool.or_eq_true, hfull, true_and]
    tauto
  · rw [finishAppend_more (by exact hfull)]
    simp [afterGroup, hfull]

/-- Word `CURSOR + c` of the slot that was active is the group's word `c`. -/
theorem slotWord_finishAppend {g : List Word} {s : State} (hB : s.cursor + g.length ≤ s.params.bufferSize) {c : Nat}
    (hc : c < g.length) : slotWord (finishAppend (afterGroup g s)) s.active (s.cursor + c) = g[c] := by
  rw [← slotWord_storeGroup s s.active g s.cursor c hB hc]
  exact slotWord_congr (finishAppend_params _) (finishAppend_slots _) _ _

/-- Settles O25: APPEND is the group's store and then the swap or the cursor, and each clause is read off one of the two. -/
theorem appendRule : Obligations.AppendRule := by
  intro s g ha hg hfit hB
  refine ⟨finishAppend (afterGroup g s),
    (execAppend_acquiring ha g).trans (appendGroup_eq_afterGroup hg hfit (hfit.trans hB)),
    fun c hc => ?words, fun a hout => ?bytes, ?overrun, fun hfull => ?swap, fun hmore => ?advance⟩
  case words =>
    rw [slotWord_finishAppend (by omega) (by omega)]
    exact (List.getElem?_eq_getElem _).symm
  case bytes =>
    rw [finishAppend_slots, afterGroup, readByte_storeGroup_other]
    rwa [hg]
  case overrun =>
    rw [finishAppend_afterGroup_ovr, overwritesAny_iff]
  case swap =>
    rw [finishAppend_swap (by exact hfull)]
    rfl
  case advance =>
    rw [finishAppend_more (by exact hmore)]
    rfl

/-! ## TAKE (R123) -/

/-- Settles O28: TAKE is the latches where its condition holds, and is refused elsewhere. -/
theorem takeRule : Obligations.TakeRule := by
  refine fun s => ⟨fun hr hb => if_pos (takeEnabled_iff.2 ⟨hr, hb⟩), fun h => if_neg fun hen => ?_⟩
  obtain ⟨hr, hb⟩ := takeEnabled_iff.1 hen
  simp [hr, hb] at h

/-! ## What the sampler leaves alone -/

/-- `t` is `s` but for what APPEND writes. -/
def AppendMoves (s t : State) : Prop :=
  t = { s with slots := t.slots, cursor := t.cursor, ready := t.ready, active := t.active, ovr := t.ovr }

theorem finishAppend_moves (s : State) : AppendMoves s (finishAppend s) := by
  by_cases hfull : s.cursor + s.params.channels = s.osize
  · rw [finishAppend_swap hfull]
    rfl
  · rw [finishAppend_more hfull]
    rfl

theorem appendGroup_moves {g : List Word} {s t : State} (h : appendGroup g s = .next t) : AppendMoves s t := by
  obtain ⟨_, _, _, rfl⟩ := appendGroup_cases h
  exact finishAppend_moves (afterGroup g s)

/-- Settles O40: TICK adds to APPEND the boundary update, which writes TS and TPREV alone. -/
theorem samplerFrame : Obligations.SamplerFrame := by
  refine fun s t g u => ⟨fun h => appendGroup_moves (execAppend_next h).2, fun h => ?_⟩
  obtain ⟨a, b, hn⟩ := noteBoundary_times u s
  have happ := (execTick_next h).2
  rw [hn] at happ
  have hmoves : AppendMoves _ t := appendGroup_moves happ
  rw [hmoves]

/-! ## What the drain engine leaves alone -/

/-- EMIT's body ends the frame or moves to the next position, and besides writes ENC_HI and LINK_OUT alone (R163). -/
theorem emitByte_ends_or_advances {s t : State} (h : emitByte s = .next t) :
    ∃ hi l, t = { s with encBusy := false, encPos := 0, encHi := hi, linkOut := l } ∨
      t = { s with encPos := s.encPos + 1, encHi := hi, linkOut := l } := by
  obtain ⟨b, hi, rfl, _⟩ := emitByte_cases h
  refine ⟨hi, s.linkOut ++ [b], ?_⟩
  by_cases hlast : s.encPos + 1 = 4 + 2 * s.encLen
  · exact .inl (advanceEncoder_last hlast)
  · exact .inr (advanceEncoder_more hlast)

/-- `t` is `s` but for what EMIT writes. -/
def EmitMoves (s t : State) : Prop :=
  t = { s with encBusy := t.encBusy, encPos := t.encPos, encHi := t.encHi, linkOut := t.linkOut }

theorem emitByte_moves {s t : State} (h : emitByte s = .next t) : EmitMoves s t := by
  obtain ⟨hi, l, rfl | rfl⟩ := emitByte_ends_or_advances h <;> rfl

theorem EmitMoves.trans {s t u : State} (h : EmitMoves s t) (h' : EmitMoves t u) : EmitMoves s u := by
  refine Eq.trans h' ?_
  rw [h]

theorem emitMany_moves {n : Nat} {s t : State} (h : emitMany n s = .next t) : EmitMoves s t := by
  induction n generalizing s with
  | zero =>
    cases h
    rfl
  | succ n ih =>
    obtain ⟨u, hu, ht⟩ := andThen_eq_next.1 h
    exact (emitByte_moves hu).trans (ih ht)

/-- Settles O41: TAKE and ACK_LINE are one record update, EMIT is its body, and DATA_FRAME a run of EMIT's body. -/
theorem drainFrame : Obligations.DrainFrame := by
  refine fun s t => ⟨fun h => ?_, fun h => emitByte_moves (execEmit_next h).2.2,
    fun h => emitMany_moves (execDataFrame_next h).2, fun h => ?_⟩
  · obtain ⟨_, _, rfl⟩ := execTake_next h
    rfl
  · cases h
    rfl

end Sys2Proof.Machine
end

section
/-! SUPPORT. The slot being sent against the slot being written (R121, R123, R125, R126): a frame is not mixed while OVR is 0, and the
encoder's slot becomes the active one only by a swap. -/

namespace Sys2Proof.Machine

/-- RX_BYTE leaves no frame on its way (RESET, CONFIGURE), or moves the receiver alone (R187, R211). -/
theorem receiveByte_stops_encoder (b : Byte) (s : State) :
    (receiveByte b s).encBusy = false ∨
    ∃ m n buf, receiveByte b s = { s with rxMode := m, rxCnt := n, rxBuf := buf } := by
  rcases receiveByte_moves b s with ⟨_, h⟩ | ⟨hc, h⟩ | ⟨_, h⟩
  · exact .inl (by rw [h]; rfl)
  · have hfat : (receiverToCmd (storePayload b s)).fatal = false := by simpa using not_fatal_of_completesPayload hc
    exact .inl (by rw [h]; exact (configureWith_pipeline _ hfat).2)
  · exact .inr h

/-! ## No mixed frame without OVR (R121, R125) -/

theorem unmixed_of_not_busy {s : State} (hb : s.encBusy = false) : Unmixed s :=
  fun _ hbusy => by cases hb.symm.trans hbusy

theorem unmixed_receiveByte {s : State} (hs : Unmixed s) (b : Byte) : Unmixed (receiveByte b s) := by
  rcases receiveByte_stops_encoder b s with hb | ⟨_, _, _, h⟩
  · exact unmixed_of_not_busy hb
  · rw [h]
    exact hs

/-- A word that APPEND writes is an overrun of case 2 unless it was read; a swap leaves no word rewritten. -/
theorem unmixed_append {s : State} (hs : Unmixed s) (g : List Word) : Unmixed (finishAppend (afterGroup g s)) := by
  by_cases hfull : s.cursor + s.params.channels = s.osize
  · rw [finishAppend_swap (by exact hfull)]
    exact fun _ _ _ i hi => absurd hi (Nat.not_lt_zero i)
  · rw [finishAppend_more (by exact hfull)]
    intro ho hb hk i hi hlen
    obtain ⟨ho, hany⟩ : s.ovr = false ∧ overwritesAny s s.cursor s.params.channels = false := by
      simpa [afterGroup] using ho
    by_cases hold : i < s.cursor
    · exact hs ho hb hk i hold hlen
    · obtain ⟨c, rfl⟩ := Nat.exists_eq_add_of_le (Nat.le_of_not_lt hold)
      by_contra hunread
      exact Bool.eq_false_iff.1 hany
        (overwritesAny_iff.2 ⟨c, Nat.lt_of_add_lt_add_left hi, hb, hk, hlen, Nat.le_of_not_lt hunread⟩)

theorem unmixed_execTick {g : List Word} {u : Time} {s t : State} (hs : Unmixed s) (h : execTick g u s = .next t) :
    Unmixed t := by
  obtain ⟨_, happ⟩ := execTick_next h
  obtain ⟨a, b, hn⟩ := noteBoundary_times u s
  rw [hn] at happ
  obtain ⟨_, _, _, rfl⟩ := appendGroup_cases happ
  exact unmixed_append (s := { s with ts := a, tprev := b }) hs g

/-- A frame just taken is not in the active slot (R123). -/
theorem execTake_other_slot {s t : State} (h : execTake s = .next t) : t.encSlot ≠ t.active := by
  obtain ⟨_, _, rfl⟩ := execTake_next h
  exact other_ne s.active

theorem unmixed_execEmit {s t : State} (hs : Unmixed s) (h : execEmit s = .next t) : Unmixed t := by
  obtain ⟨_, _, hbyte⟩ := execEmit_next h
  obtain ⟨hi, l, rfl | rfl⟩ := emitByte_ends_or_advances hbyte
  · exact unmixed_of_not_busy rfl
  · exact fun ho hb hk i hlt hlen => (hs ho hb hk i hlt hlen).trans (Nat.lt_succ_self _)

theorem Micro.unmixed {s t : State} (h : Micro s t) (hs : Unmixed s) : Unmixed t := by
  cases h with
  | env => exact hs
  | count => exact hs
  | receive b => exact unmixed_receiveByte hs b
  | tick g u h => exact unmixed_execTick hs h
  | take h => exact fun _ _ hk => absurd hk (execTake_other_slot h)
  | emit h => exact unmixed_execEmit hs h

/-- Settles O48: a step is a chain of micro steps, and each of them keeps the frame unmixed. -/
theorem stepKeepsFrameUnmixed : Obligations.StepKeepsFrameUnmixed := fun _ _ _ hs h =>
  step_keeps (fun _ _ hm => hm.unmixed) h hs

/-! ## When the slot being sent becomes the active one (R126) -/

/-- A frame is being sent from the active slot. -/
def SendsActive (s : State) : Prop := s.encBusy = true ∧ s.encSlot = s.active

/-- From `s` to `t` the block, acquiring and sending, completes a frame and swaps. -/
def SwapsWhileSending (s t : State) : Prop :=
  s.encBusy = true ∧ s.phase = .acquiring ∧ s.cursor + s.params.channels = s.osize ∧
    t.encSlot = s.encSlot ∧ t.active = s.active.other ∧ t.ready = true ∧ t.cursor = 0

/-- Only the swap of a TICK changes ACTIVE. -/
theorem execTick_swaps {g : List Word} {u : Time} {s t : State} (h : execTick g u s = .next t) (hs : ¬ SendsActive s)
    (ht : SendsActive t) : SwapsWhileSending s t := by
  obtain ⟨ha, happ⟩ := execTick_next h
  obtain ⟨a, b, hn⟩ := noteBoundary_times u s
  rw [hn] at happ
  obtain ⟨_, _, _, rfl⟩ := appendGroup_cases happ
  by_cases hfull : s.cursor + s.params.channels = s.osize
  · rw [finishAppend_swap (by exact hfull)] at ht ⊢
    exact ⟨ht.1, ha, hfull, rfl, rfl, rfl, rfl⟩
  · rw [finishAppend_more (by exact hfull)] at ht
    exact absurd ht hs

theorem cycleTimer_swaps {r : Bool} {c : CycleInputs} {s t : State} (h : cycleTimer r c s = .next t)
    (hs : ¬ SendsActive s) (ht : SendsActive t) : SwapsWhileSending s t := by
  unfold cycleTimer timerCount at h
  split at h
  · split at h
    · cases h
    · split at h
      · cases h
        exact absurd ht hs
      · exact execTick_swaps (s := { s with tmrCnt := 0 }) h hs ht
  · cases h
    exact absurd ht hs

/-- RX_BYTE makes no slot active that is being sent, and a swap behind it is one from before it. -/
theorem receiveByte_sendsActive {b : Byte} {s : State} (hs : ¬ SendsActive s) :
    ¬ SendsActive (receiveByte b s) ∧ ∀ t, SwapsWhileSending (receiveByte b s) t → SwapsWhileSending s t := by
  rcases receiveByte_stops_encoder b s with hb | ⟨_, _, _, h⟩
  · exact ⟨fun ⟨hbusy, _⟩ => Bool.eq_false_iff.1 hb hbusy, fun _ ⟨hbusy, _⟩ => absurd hbusy (Bool.eq_false_iff.1 hb)⟩
  · rw [h]
    exact ⟨hs, fun _ => id⟩

theorem cycleReceive_sendsActive {c : CycleInputs} {s : State} (hs : ¬ SendsActive s) :
    ¬ SendsActive (cycleReceive c s) ∧ ∀ t, SwapsWhileSending (cycleReceive c s) t → SwapsWhileSending s t := by
  unfold cycleReceive
  split
  · exact receiveByte_sendsActive hs
  · exact ⟨hs, fun _ => id⟩

/-- The TAKE of a cycle leaves the frame in the other slot, or does not happen. -/
theorem cycleTake_sendsActive {c : CycleInputs} {s t : State} (h : cycleTake c s = .next t) (ht : SendsActive t) :
    t = s := by
  unfold cycleTake at h
  split at h
  · exact absurd ht.2 (execTake_other_slot h)
  · cases h
    rfl

/-- EMIT changes neither slot, and a swap before it is one to behind it. -/
theorem execEmit_sendsActive {s t : State} (h : execEmit s = .next t) (ht : SendsActive t) :
    SendsActive s ∧ ∀ r, SwapsWhileSending r s → SwapsWhileSending r t := by
  obtain ⟨hb, _, hbyte⟩ := execEmit_next h
  obtain ⟨hi, l, rfl | rfl⟩ := emitByte_ends_or_advances hbyte <;> exact ⟨⟨hb, ht.2⟩, fun _ => id⟩

theorem cycleEmit_sendsActive {s t : State} (h : cycleEmit s = .next t) (ht : SendsActive t) :
    SendsActive s ∧ ∀ r, SwapsWhileSending r s → SwapsWhileSending r t := by
  unfold cycleEmit at h
  split at h
  · exact execEmit_sendsActive h ht
  · cases h
    exact ⟨ht, fun _ => id⟩

/-- In a cycle the one TICK swaps; the host byte before it and the TAKE and the EMIT behind it do not matter (R248). -/
theorem clockCycle_swaps {c : CycleInputs} {s t : State} (h : clockCycle c s = .next t) (hs : ¬ SendsActive s)
    (ht : SendsActive t) : SwapsWhileSending s t := by
  obtain ⟨u, v, htimer, htake, hemit⟩ := clockCycle_cases h
  obtain ⟨hrecv, hbefore⟩ := cycleReceive_sendsActive (c := c) (s := driveInputs c s) hs
  obtain ⟨hv, hbehind⟩ := cycleEmit_sendsActive hemit ht
  obtain rfl := cycleTake_sendsActive htake hv
  exact hbehind s (hbefore v (cycleTimer_swaps htimer hrecv hv))

theorem runEvent_swaps {e : Event} {s t : State} (h : runEvent e s = .next t) (hs : ¬ SendsActive s)
    (ht : SendsActive t) : SwapsWhileSending s t := by
  cases e with
  | rx b =>
    cases h
    exact absurd ht (receiveByte_sendsActive hs).1
  | tick g u => exact execTick_swaps h hs ht
  | take => exact absurd ht.2 (execTake_other_slot h)
  | emit => exact absurd (execEmit_sendsActive h ht).1 hs
  | now u =>
    cases h
    exact absurd ht hs
  | cycle c => exact clockCycle_swaps h hs ht

/-- Settles O50: of the events only TICK, alone or in its cycle, changes ACTIVE while a frame is being sent. -/
theorem slotExclusivityEndsOnlyAtASwap : Obligations.SlotExclusivityEndsOnlyAtASwap := by
  intro s t _ hs h hb hk
  have hns : ¬ SendsActive s := not_and.2 hs
  rcases step_cases h with ⟨_, rfl⟩ | ⟨es, n, h⟩
  · exact absurd ⟨hb, hk⟩ hns
  · exact runEvent_swaps (s := { s with sched := es, draws := n }) h hns ⟨hb, hk⟩

/-! ## R126 does not hold of one step (log 20) -/

/-- One word a frame in slots of one word: slot 0 is being sent, and the next TICK completes the frame of slot 1. -/
def secondFrameDue : State :=
  { State.powerOn ⟨1, 1, 1, 1, 999, 1, 1, []⟩ with
      phase := .acquiring, freq := 1, osize := 1, active := .one, encBusy := true, encSlot := .zero, encLen := 1
      sched := [.tick [0] 0] }

theorem inv_secondFrameDue : Inv secondFrameDue := by
  constructor
  case toMeetsR61 => constructor <;> decide
  all_goals decide

/-- The swap makes slot 0 active, nothing is overwritten and no frame is dropped. -/
theorem step_secondFrameDue : ∃ t, step secondFrameDue = .next t ∧ t.ovr = false ∧ SendsActive t :=
  ⟨_, rfl, by decide, by decide, by decide⟩

/-- Refutes O49: the swap at the end of a second frame makes the slot being sent active, with OVR still 0. -/
theorem not_busySlotNeverActiveWithoutOverrun : ¬ Obligations.BusySlotNeverActiveWithoutOverrun := by
  intro h
  obtain ⟨t, hstep, ho, hb, hk⟩ := step_secondFrameDue
  exact h secondFrameDue t inv_secondFrameDue (by decide) hstep rfl ho hb hk

end Sys2Proof.Machine
end

section
/-! SUPPORT. TICK by its boundary update (R145), and the clock cycles in which the drain engine rests (R143, R144, R148,
R248): they are their host byte and their timer alone. -/

namespace Sys2Proof.Machine

/-! ## TICK (R145, R146) -/

theorem noteBoundary_first {s : State} (h : s.cursor = 0) (t : Time) :
    noteBoundary t s = { s with ts := s.ts + (t - s.tprev), tprev := t } := if_pos h

theorem noteBoundary_later {s : State} (h : s.cursor ≠ 0) (t : Time) : noteBoundary t s = s := if_neg h

/-- TS advances by the modular difference, modulo 2^32 (R45, R146). -/
theorem toNat_advance (ts t tprev : Time) :
    (ts + (t - tprev)).toNat = (ts.toNat + (t.toNat + 2 ^ 32 - tprev.toNat) % 2 ^ 32) % 2 ^ 32 := by
  rw [BitVec.toNat_add, BitVec.toNat_sub', Nat.add_sub_assoc tprev.isLt.le t.toNat]

/-- Where the group fits, TICK completes, with the times that the boundary update has left. -/
theorem execTick_of_fits {g : List Word} {s : State} (ha : s.phase = .acquiring) (hg : g.length = s.params.channels)
    (hc : s.cursor + s.params.channels ≤ s.osize) (hB : s.osize ≤ s.params.bufferSize) (t : Time) :
    ∃ u, execTick g t s = .next u ∧ u.ts = (noteBoundary t s).ts ∧ u.tprev = (noteBoundary t s).tprev := by
  have happ : appendGroup g (noteBoundary t s) = .next (finishAppend (afterGroup g (noteBoundary t s))) :=
    appendGroup_eq_afterGroup (by simpa using hg) (by simpa using hc) (by simpa using hc.trans hB)
  exact ⟨_, (execTick_acquiring ha g t).trans happ, finishAppend_ts _, finishAppend_tprev _⟩

/-- Settles O26: while `Acquiring` both operations are APPEND's body, which the boundary update precedes and whose end leaves the
times alone. -/
theorem tickRule : Obligations.TickRule := by
  intro s g t
  refine ⟨fun ha => ?same, fun ha hg hc hB => ?completes, fun hi => ?idle⟩
  case same =>
    have hphase : (noteBoundary t s).phase = .acquiring := by simpa using ha
    exact (execTick_acquiring ha g t).trans (execAppend_acquiring hphase g).symm
  case completes =>
    obtain ⟨u, hu, hts, htprev⟩ := execTick_of_fits ha hg hc hB t
    refine ⟨u, hu, fun h0 => ?_, fun h0 => ?_⟩
    · rw [noteBoundary_first h0] at hts htprev
      exact ⟨hts ▸ toNat_advance _ _ _, htprev⟩
    · rw [noteBoundary_later h0] at hts htprev
      exact ⟨hts, htprev⟩
  case idle => simp [exec, execTick, tickEnabled, hi]

/-! ## Cycles in which the drain engine rests (R248) -/

/-- Neither the TAKE nor the EMIT of cycle `c` happens behind the timer's state `u`. -/
def DrainRests (c : CycleInputs) (u : State) : Prop :=
  (c.takes && takeEnabled u) = false ∧ emitEnabled u = false

/-- Such a cycle is its host byte and its timer. -/
theorem clockCycle_of_drainRests {c : CycleInputs} {s : State} {o : Host.Outcome State Fault Refusal}
    (ho : cycleTimer (restartsTimer c s) c (cycleReceive c (driveInputs c s)) = o)
    (hrests : ∀ u, o = .next u → DrainRests c u) : clockCycle c s = o := by
  rw [clockCycle, ho]
  cases o with
  | next u =>
    obtain ⟨htake, hemit⟩ := hrests u rfl
    rw [andThen_next, cycleTake, htake]
    simp [cycleEmit, hemit]
  | fault r => rfl
  | refused r => rfl

/-- Settles O59: RESET leaves nothing that the rest of the cycle could do, being `Idle` with an empty pipeline (R148, R187). -/
theorem resetWinsItsCycle : Obligations.ResetWinsItsCycle := by
  intro s c hR
  have hrecv : cycleReceive c (driveInputs c s) = resetBlock (driveInputs c s) := by
    rw [cycleReceive, hR]
    rfl
  have htimer : cycleTimer (restartsTimer c s) c (resetBlock (driveInputs c s)) = exec .reset (driveInputs c s) := rfl
  refine clockCycle_of_drainRests ((congrArg _ hrecv).trans htimer) fun u hu => ?_
  cases hu
  exact ⟨Bool.and_false _, rfl⟩

/-! ## Cycles of the timer alone (R143, R144) -/

/-- In a cycle with the inputs `c` nothing but the timer moves, and no input line changes. -/
structure TimerOnly (c : CycleInputs) (s : State) : Prop where
  rx : c.rx = none
  takes : c.takes = false
  txReady : c.txReady = false
  txReady_held : s.txReady = false
  timeNow_held : s.timeNow = c.time

theorem execTick_txReady {g : List Word} {u : Time} {s t : State} (h : execTick g u s = .next t) :
    t.txReady = s.txReady := by
  rw [(samplerFrame s t g u).2 h]

theorem cycleTimer_txReady {r : Bool} {c : CycleInputs} {s t : State} (h : cycleTimer r c s = .next t) :
    t.txReady = s.txReady := by
  unfold cycleTimer timerCount at h
  split at h
  · split at h
    · cases h
    · split at h
      · cases h
        rfl
      · exact execTick_txReady (s := { s with tmrCnt := 0 }) h
  · cases h
    rfl

section
variable {c : CycleInputs} {s : State} (h : TimerOnly c s)
include h

theorem TimerOnly.reschedule (es : List Event) : TimerOnly c { s with sched := es } := { h with }

theorem TimerOnly.count (n : Nat) : TimerOnly c { s with tmrCnt := n } := { h with }

theorem TimerOnly.driveInputs_eq : driveInputs c s = s := by
  rw [driveInputs, ← h.timeNow_held, h.txReady, ← h.txReady_held]

/-- While `Acquiring`, such a cycle is one count of the timer. -/
theorem TimerOnly.clockCycle_eq (ha : s.phase = .acquiring) : clockCycle c s = timerCount c s := by
  have htimer : cycleTimer (restartsTimer c s) c (cycleReceive c (driveInputs c s)) = timerCount c s := by
    simp [cycleTimer, restartsTimer, cycleReceive, h.rx, h.driveInputs_eq, tickEnabled, ha]
  refine clockCycle_of_drainRests htimer fun u hu => ⟨by rw [h.takes, Bool.false_and], ?_⟩
  have htx := cycleTimer_txReady (htimer.trans hu)
  simp [emitEnabled, htx, cycleReceive, h.rx, h.txReady]

end

theorem timerCount_below {c : CycleInputs} {s : State} (h : s.tmrCnt + 1 < timerPeriod s.params s.freq.toNat) :
    timerCount c s = .next { s with tmrCnt := s.tmrCnt + 1 } := by
  rw [timerCount, if_neg (by omega), if_pos h]

/-- The cycle in which TMR_CNT wraps is TICK with TMR_CNT at 0 (R144). -/
theorem timerCount_wrap {c : CycleInputs} {s : State} (h : s.tmrCnt + 1 = timerPeriod s.params s.freq.toNat) :
    timerCount c s = execTick c.samples c.time { s with tmrCnt := 0 } := by
  rw [timerCount, if_neg (by omega), if_neg (by omega)]

/-- Below the period, cycles of the timer alone add their number to TMR_CNT. -/
theorem TimerOnly.runEvents_count {c : CycleInputs} {n : Nat} {s : State} (h : TimerOnly c s) (ha : s.phase = .acquiring)
    (hn : s.tmrCnt + n < timerPeriod s.params s.freq.toNat) :
    runEvents (List.replicate n (.cycle c)) s = .next { s with sched := [], tmrCnt := s.tmrCnt + n } := by
  induction n generalizing s with
  | zero => rfl
  | succ n ih =>
    have hrest := h.reschedule (List.replicate n (.cycle c))
    have hcycle : runEvent (.cycle c) { s with sched := List.replicate n (.cycle c) } =
        .next { s with sched := List.replicate n (.cycle c), tmrCnt := s.tmrCnt + 1 } :=
      (hrest.clockCycle_eq ha).trans (timerCount_below (by simp only; omega))
    rw [List.replicate_succ, runEvents_cons hcycle rfl, ih (hrest.count _) ha (by simp only; omega), Nat.add_assoc,
      Nat.add_comm 1]

/-- CONFIGURE leaves TMR_CNT at 0, whatever it answers (R185, R187). -/
theorem configureWith_tmrCnt (r : ParseResult) {s : State} (hf : s.fatal = false) : (configureWith r s).tmrCnt = 0 := by
  rcases configureWith_cases r s with ⟨hft, _⟩ | ⟨_, _, h⟩ | ⟨_, _, h⟩ | ⟨_, _, _, _, _, _, h⟩
  · cases hf.symm.trans hft
  all_goals rw [h]; rfl

theorem receiveByte_completes_tmrCnt {b : Byte} {s : State} (hc : completesPayload b s = true) :
    (receiveByte b s).tmrCnt = 0 := by
  obtain ⟨hR, hf, hT, hm, h13⟩ := (completesPayload_iff b s).1 hc
  rw [receiveByte_payload hR hT hf hm, collectPayload_last h13]
  exact configureWith_tmrCnt _ hf

/-- Settles O57: a cycle without other events is one count of the timer, and the cycle of a CONFIGURE is that byte alone. -/
theorem timerTicksEveryPeriod : Obligations.TimerTicksEveryPeriod := by
  intro s c
  refine ⟨fun hrx htakes htx hheld hnow ha => ?_, fun b hb hc => ?_⟩
  · have h : TimerOnly c s := ⟨hrx, htakes, htx, hheld, hnow⟩
    exact ⟨fun n hn => h.runEvents_count ha hn, fun hwrap => (h.clockCycle_eq ha).trans (timerCount_wrap hwrap)⟩
  · exact ⟨_, clockCycle_of_completes hb hc, rfl, receiveByte_completes_tmrCnt (s := driveInputs c s) hc⟩

end Sys2Proof.Machine
end

section
/-! SUPPORT. A frame's bytes read back as its words (R166), its sentinel among the bytes around it (R165), and EMIT in every
branch (R163). -/

namespace Sys2Proof.Machine

/-! ## Words and their bytes (R75, R166) -/

theorem toNat_eq_bytes (v : Word) : v.toNat = (lowByte v).toNat + 256 * (highByte v).toNat := by
  have hv := v.isLt
  simp only [lowByte, highByte, BitVec.extractLsb'_toNat, Nat.shiftRight_eq_div_pow]
  omega

theorem wordsOf_flatMap_wordBytes (w : List Word) : wordsOf (w.flatMap wordBytes) = w := by
  induction w with
  | nil => rfl
  | cons v w ih => simpa [wordBytes, wordsOf] using ih

/-- Any byte string of two bytes a word is the data of a frame. -/
theorem flatMap_wordBytes_wordsOf {n : Nat} {l : List Byte} (h : l.length = 2 * n) :
    (wordsOf l).length = n ∧ (wordsOf l).flatMap wordBytes = l := by
  induction n generalizing l with
  | zero =>
    obtain rfl := List.length_eq_zero_iff.1 h
    exact ⟨rfl, rfl⟩
  | succ n ih =>
    match l, h with
    | [], h => simp at h
    | [_], h => simp at h; omega
    | lo :: hi :: rest, h =>
      obtain ⟨hlen, hbytes⟩ := ih (l := rest) (by simp at h; omega)
      exact ⟨congrArg Nat.succ hlen, by simp [wordsOf, wordBytes, hbytes]⟩

theorem decodeFrame_frameBytes (w : List Word) : decodeFrame (frameBytes w) = some w :=
  congrArg some (wordsOf_flatMap_wordBytes w)

/-- Settles O32: the words read back pair by pair, and the two bytes of each word make up its value. -/
theorem frameRoundTrip : Obligations.FrameRoundTrip := by
  refine fun w => ⟨decodeFrame_frameBytes w, fun i v lo hi hv hlo hhi => ?_⟩
  obtain ⟨hlow, hhigh⟩ := getElem?_frameBytes_word hv
  cases hlow.symm.trans hlo
  cases hhigh.symm.trans hhi
  exact toNat_eq_bytes v

/-! ## The sentinel among its neighbours (R165) -/

theorem highByte_ne_ff {v : Word} (h : v.toNat ≤ 0x7FFF) : highByte v ≠ 0xFF#8 := by
  intro hff
  have hv := toNat_eq_bytes v
  rw [hff, show (0xFF#8).toNat = 255 from rfl] at hv
  omega

/-- With 15-bit samples no high byte of a frame is 0xFF. -/
theorem frameBytes_odd_ne_ff {w : List Word} (hw : ∀ v ∈ w, v.toNat ≤ 0x7FFF) {k : Nat} (h5 : 5 ≤ k) (ho : k % 2 = 1)
    (hk : k < 4 + 2 * w.length) : (frameBytes w)[k]? ≠ some 0xFF#8 := by
  obtain ⟨i, rfl⟩ : ∃ i, k = 5 + 2 * i := ⟨(k - 5) / 2, by omega⟩
  have hi : i < w.length := by omega
  rw [(getElem?_frameBytes_word (List.getElem?_eq_getElem hi)).2]
  exact fun h => highByte_ne_ff (hw _ (List.getElem_mem hi)) (Option.some.inj h)

/-- Byte `k` of the middle part of a stream. -/
theorem getElem?_between (before l after : List Byte) {k : Nat} (hk : k < l.length) :
    (before ++ l ++ after)[before.length + k]? = l[k]? := by
  rw [List.append_assoc, List.getElem?_append_right (by omega), Nat.add_sub_cancel_left, List.getElem?_append_left hk]

/-- A window of four 0xFF holds 0xFF at each of its positions. -/
theorem getElem?_of_window {l : List Byte} {j c : Nat} (h : (l.drop j).take 4 = [0xFF#8, 0xFF#8, 0xFF#8, 0xFF#8])
    (hj : j ≤ c) (hc : c < j + 4) : l[c]? = some 0xFF#8 := by
  obtain ⟨d, rfl⟩ := Nat.exists_eq_add_of_le hj
  have hd : d < 4 := by omega
  rw [← List.getElem?_drop, ← List.getElem?_take_of_lt hd, h]
  exact List.getElem?_replicate_of_lt (n := 4) hd

/-- Settles O33: a window that starts before the frame holds the last byte before it, one that starts two or more bytes
into it holds a high byte, and the one that starts one byte into it holds the first low byte. -/
theorem sentinelWindows : Obligations.SentinelWindows := by
  intro before after w j hw hne hlast hlo hhi hwin
  have hlen := length_frameBytes w
  have hpos : 0 < w.length := List.length_pos_iff.2 hne
  have hff : ∀ k, k < 4 + 2 * w.length → j ≤ before.length + k → before.length + k < j + 4 →
      (frameBytes w)[k]? = some 0xFF#8 := fun k hk hj hc =>
    (getElem?_between before _ after (by omega)).symm.trans (getElem?_of_window hwin hj hc)
  rcases Nat.lt_trichotomy j before.length with hbefore | rfl | hinside
  · refine absurd ?_ hlast
    rw [List.getLast?_eq_getElem?, ← getElem?_of_window hwin (c := before.length - 1) (by omega) (by omega),
      List.append_assoc, List.getElem?_append_left (by omega)]
  · exact .inl rfl
  · by_cases hone : j = before.length + 1
    · have hv := List.getElem?_eq_getElem hpos
      have hlow := (getElem?_frameBytes_word hv).1
      exact .inr ⟨hone, _, List.head?_eq_getElem?.trans hv,
        Option.some.inj (hlow.symm.trans (hff 4 (by omega) (by omega) (by omega)))⟩
    · obtain ⟨k, h5, ho, hk, hj, hc⟩ : ∃ k, 5 ≤ k ∧ k % 2 = 1 ∧ k < 4 + 2 * w.length ∧ j ≤ before.length + k ∧
          before.length + k < j + 4 := by
        obtain ⟨d, rfl⟩ := Nat.exists_eq_add_of_le hinside.le
        exact ⟨max 5 (d + (d + 1) % 2), by omega, by omega, by omega, by omega, by omega⟩
      exact absurd (hff k hk hj hc) (frameBytes_odd_ne_ff hw h5 ho hk)

/-! ## EMIT (R163) -/

/-- Settles O34: the three positions of EMIT's body, and the enabling condition. -/
theorem emitRule : Obligations.EmitRule :=
  fun _ => ⟨fun hb hx hp => (execEmit_enabled hb hx).trans (emitByte_sentinel hp),
    fun hb hx hp he hB => (execEmit_enabled hb hx).trans (emitByte_low hp he hB),
    fun hb hx hp ho => (execEmit_enabled hb hx).trans (emitByte_high hp ho),
    fun h => if_neg fun hen => by
      obtain ⟨hb, hx⟩ := emitEnabled_iff.1 hen
      simp [hb, hx] at h⟩

end Sys2Proof.Machine
end

section
/-! SUPPORT. The device-to-host stream against its grammar (R222): what each operation adds to it, segment by segment. -/

namespace Sys2Proof.Machine

/-! ## Reading and writing one more segment -/

theorem streamAfter_snoc {p : Params} {segs : List Segment} {g : Segment} {cfg cfg' cfg'' : Option Acked}
    (h : streamAfter p cfg segs = some cfg') (hg : Segment.after p cfg' g = some cfg'') :
    streamAfter p cfg (segs ++ [g]) = some cfg'' := by
  induction segs generalizing cfg with
  | nil =>
    cases h
    simp [streamAfter, hg]
  | cons x segs ih =>
    cases hx : Segment.after p cfg x with
    | none => simp [streamAfter, hx] at h
    | some c =>
      simp only [streamAfter, hx] at h
      simpa only [List.cons_append, streamAfter, hx] using ih h

theorem streamBytes_snoc (p : Params) (segs : List Segment) (g : Segment) :
    streamBytes p (segs ++ [g]) = streamBytes p segs ++ g.bytes p := by simp [streamBytes]

theorem after_frame {p : Params} {a : Acked} {w : List Word} (h : w.length = a.osize) :
    Segment.after p (some a) (.frame w) = some (some a) := if_pos (congrArg some h.symm)

theorem after_cut {p : Params} {a : Acked} {w : List Word} {k : Nat} (h : w.length = a.osize)
    (hk : k < 4 + 2 * w.length) : Segment.after p (some a) (.cut w k) = some none :=
  if_pos ⟨congrArg some h.symm, hk⟩

theorem after_ack {p : Params} {cfg : Option Acked} {e f : Nat} (he : e ≤ 9999999999) (h1 : 1 ≤ f) (hf : f ≤ 999)
    (hB : outputSize p f ≤ p.bufferSize) :
    Segment.after p cfg (.ack e f (outputSize p f)) = some (some ⟨e, f, outputSize p f⟩) :=
  if_pos ⟨he, h1, hf, rfl, hB⟩

/-! ## The grammar with the encoder idle and with a frame on its way -/

/-- The stream `out` is a sequence of segments, the last ack still in force being `cfg`. -/
def StreamReads (p : Params) (cfg : Option Acked) (out : List Byte) : Prop :=
  ∃ segs, streamAfter p none segs = some cfg ∧ out = streamBytes p segs

theorem StreamReads.snoc {p : Params} {cfg cfg' : Option Acked} {out : List Byte} (h : StreamReads p cfg out)
    {g : Segment} (hg : Segment.after p cfg g = some cfg') : StreamReads p cfg' (out ++ g.bytes p) := by
  obtain ⟨segs, hsegs, rfl⟩ := h
  exact ⟨segs ++ [g], streamAfter_snoc hsegs hg, (streamBytes_snoc p segs g).symm⟩

theorem linkGrammar_iff_of_not_busy {s : State} (hb : s.encBusy = false) : LinkGrammar s ↔
    ∃ cfg, StreamReads s.params cfg s.linkOut ∧ (s.phase = .acquiring → cfg = some s.acked) := by
  simp only [LinkGrammar, hb, Bool.false_eq_true, ↓reduceIte]
  constructor
  · rintro ⟨segs, cfg, hsegs, hcfg, hout⟩
    exact ⟨cfg, ⟨segs, hsegs, hout⟩, hcfg⟩
  · rintro ⟨cfg, ⟨segs, hsegs, hout⟩, hcfg⟩
    exact ⟨segs, cfg, hsegs, hcfg, hout⟩

/-- A busy encoder is acquiring, so its frame belongs to the configuration in force. -/
theorem linkGrammar_iff_of_busy {s : State} (ha : s.phase = .acquiring) (hb : s.encBusy = true) : LinkGrammar s ↔
    ∃ out w, StreamReads s.params (some s.acked) out ∧ w.length = s.encLen ∧
      s.linkOut = out ++ (frameBytes w).take s.encPos := by
  simp only [LinkGrammar, hb, ↓reduceIte]
  constructor
  · rintro ⟨segs, cfg, hsegs, hcfg, w, hw, hout⟩
    exact ⟨_, w, ⟨segs, hcfg ha ▸ hsegs, rfl⟩, hw, hout⟩
  · rintro ⟨_, w, ⟨segs, hsegs, rfl⟩, hw, hout⟩
    exact ⟨segs, _, hsegs, fun _ => rfl, w, hw, hout⟩

/-! ## The part of a frame that has been sent (R162) -/

/-- Behind the sentinel, a frame with one byte exchanged is the frame of other words. -/
theorem exists_frameBytes_set (w : List Word) {k : Nat} (hk : 4 ≤ k) (b : Byte) :
    ∃ w' : List Word, w'.length = w.length ∧ frameBytes w' = (frameBytes w).set k b := by
  obtain ⟨hlen, hbytes⟩ := flatMap_wordBytes_wordsOf (l := (w.flatMap wordBytes).set (k - 4) b)
    (List.length_set.trans (length_flatMap_wordBytes w))
  exact ⟨_, hlen, by rw [frameBytes, hbytes, frameBytes, List.set_append_right _ _ hk]; rfl⟩

/-- What has been sent of a frame and one more byte, 0xFF within the sentinel, are what has been sent of some frame. -/
theorem exists_frameBytes_take_succ (w : List Word) {k : Nat} {b : Byte} (hk : k < 4 + 2 * w.length)
    (hb : k < 4 → b = 0xFF#8) :
    ∃ w' : List Word, w'.length = w.length ∧ (frameBytes w').take (k + 1) = (frameBytes w).take k ++ [b] := by
  by_cases h4 : k < 4
  · exact ⟨w, rfl, by rw [List.take_add_one, getElem?_frameBytes_sentinel w h4, hb h4]; rfl⟩
  · obtain ⟨w', hlen, hset⟩ := exists_frameBytes_set w (Nat.le_of_not_lt h4) b
    refine ⟨w', hlen, ?_⟩
    rw [hset, List.take_add_one, List.take_set_of_le (Nat.le_refl k),
      List.getElem?_set_self ((length_frameBytes w).symm ▸ hk)]
    rfl

/-! ## Control unit and receiver (R185, R187, R188) -/

/-- PipelineClear cuts a frame on its way short. -/
theorem linkGrammar_pipelineClear {s : State} (hs : Inv s) (hg : LinkGrammar s) : LinkGrammar (pipelineClear s) := by
  refine (linkGrammar_iff_of_not_busy rfl).2 ?_
  cases hb : s.encBusy with
  | false =>
    obtain ⟨cfg, hreads, _⟩ := (linkGrammar_iff_of_not_busy hb).1 hg
    exact ⟨cfg, hreads, fun ha => by cases ha⟩
  | true =>
    obtain ⟨hlen, hpos⟩ := hs.busy hb
    obtain ⟨out, w, hreads, hw, hout⟩ := (linkGrammar_iff_of_busy (hs.acquiring_of_busy hb) hb).1 hg
    have hcut : StreamReads s.params none s.linkOut :=
      hout ▸ hreads.snoc (after_cut (hw.trans hlen) (hw.symm ▸ hpos))
    exact ⟨none, hcut, fun ha => by cases ha⟩

/-- CONFIGURE's success branch adds its ack line. -/
theorem linkGrammar_startAcquiring {s : State} (hb : s.encBusy = false) (hg : LinkGrammar s) {e : BitVec 64}
    {f : BitVec 10} (h0 : f ≠ 0) (he : e.toNat ≤ 9999999999) (hf : f.toNat ≤ 999)
    (hB : outputSize s.params f.toNat ≤ s.params.bufferSize) : LinkGrammar (startAcquiring e f s) := by
  obtain ⟨cfg, hreads, _⟩ := (linkGrammar_iff_of_not_busy hb).1 hg
  have h1 : 1 ≤ f.toNat := Nat.one_le_iff_ne_zero.2 fun hz => h0 (BitVec.eq_of_toNat_eq hz)
  exact (linkGrammar_iff_of_not_busy (s := startAcquiring e f s) hb).2
    ⟨_, hreads.snoc (after_ack he h1 hf hB), fun _ => rfl⟩

theorem linkGrammar_configureWith {s : State} (hs : Inv s) (hg : LinkGrammar s) (b : Vector Byte 14) :
    LinkGrammar (configureWith (parse b) s) := by
  have hclear := linkGrammar_pipelineClear hs hg
  rcases configureWith_cases (parse b) s with
    ⟨_, h⟩ | ⟨_, _, h⟩ | ⟨_, _, h⟩ | ⟨_, e, f, hok, h0, hB, h⟩ <;> rw [h]
  case inl => exact hg
  case inr.inl => exact hclear
  case inr.inr.inl => exact hclear
  case inr.inr.inr =>
    obtain ⟨he, hf⟩ := parse_bounds hok
    exact linkGrammar_startAcquiring (s := { pipelineClear s with perr := false }) rfl hclear h0 he hf hB

theorem linkGrammar_receiveByte {s : State} (hs : Inv s) (hg : LinkGrammar s) (b : Byte) :
    LinkGrammar (receiveByte b s) := by
  rcases receiveByte_moves b s with ⟨_, h⟩ | ⟨_, h⟩ | ⟨_, _, _, _, h⟩ <;> rw [h]
  case inl => exact linkGrammar_pipelineClear (s := s) hs hg
  case inr.inl => exact linkGrammar_configureWith (inv_receiverToCmd (inv_storePayload hs b)) hg _
  case inr.inr => exact hg

/-! ## Sampler and drain engine (R123, R145, R163) -/

theorem linkGrammar_execTick {g : List Word} {u : Time} {s t : State} (hg : LinkGrammar s)
    (h : execTick g u s = .next t) : LinkGrammar t := by
  rw [(samplerFrame s t g u).2 h]
  exact hg

/-- TAKE begins a frame of which nothing has been sent. -/
theorem linkGrammar_execTake {s t : State} (hs : Inv s) (hg : LinkGrammar s) (h : execTake s = .next t) :
    LinkGrammar t := by
  obtain ⟨hr, hb, rfl⟩ := execTake_next h
  have ha := hs.acquiring_of_ready hr
  obtain ⟨cfg, hreads, hcfg⟩ := (linkGrammar_iff_of_not_busy hb).1 hg
  exact (linkGrammar_iff_of_busy (s := latchFrame s) ha rfl).2
    ⟨s.linkOut, List.replicate s.osize 0, hcfg ha ▸ hreads, List.length_replicate, (List.append_nil _).symm⟩

/-- EMIT sends one more byte of a frame; the last one completes it. -/
theorem linkGrammar_execEmit {s t : State} (hs : Inv s) (hg : LinkGrammar s) (h : execEmit s = .next t) :
    LinkGrammar t := by
  obtain ⟨hb, _, hbyte⟩ := execEmit_next h
  obtain ⟨hlen, hpos⟩ := hs.busy hb
  have ha := hs.acquiring_of_busy hb
  obtain ⟨out, w, hreads, hw, hout⟩ := (linkGrammar_iff_of_busy ha hb).1 hg
  obtain ⟨b, hi, rfl, hcases⟩ := emitByte_cases hbyte
  have hsentinel : s.encPos < 4 → b = 0xFF#8 := by
    obtain ⟨_, hff, _⟩ | ⟨h4, _⟩ | ⟨h4, _⟩ := hcases
    · exact fun _ => hff
    all_goals exact fun hlt => absurd hlt (Nat.not_lt.2 h4)
  obtain ⟨w', hw', hsent⟩ := exists_frameBytes_take_succ w (hw.symm ▸ hpos) hsentinel
  have hout' : s.linkOut ++ [b] = out ++ (frameBytes w').take (s.encPos + 1) := by
    rw [hout, List.append_assoc, hsent]
  rw [hw] at hw'
  by_cases hlast : s.encPos + 1 = 4 + 2 * s.encLen
  · rw [advanceEncoder_last (by exact hlast)]
    refine (linkGrammar_iff_of_not_busy rfl).2 ⟨some s.acked, ?_, fun _ => rfl⟩
    have hframe : out ++ (frameBytes w').take (s.encPos + 1) = out ++ frameBytes w' := by
      rw [List.take_of_length_le (by rw [length_frameBytes]; omega)]
    exact hout'.trans hframe ▸ hreads.snoc (after_frame (hw'.trans hlen))
  · rw [advanceEncoder_more (by exact hlast)]
    exact (linkGrammar_iff_of_busy (by exact ha) (by exact hb)).2 ⟨out, w', hreads, hw', hout'⟩

/-! ## Steps -/

theorem Micro.linkGrammar {s t : State} (h : Micro s t) (hs : Inv s) (hg : LinkGrammar s) : LinkGrammar t := by
  cases h with
  | env => exact hg
  | count => exact hg
  | receive b => exact linkGrammar_receiveByte hs hg b
  | tick g u h => exact linkGrammar_execTick hg h
  | take h => exact linkGrammar_execTake hs hg h
  | emit h => exact linkGrammar_execEmit hs hg h

/-- Settles O53: a step is a chain of micro steps, and each of them keeps the grammar together with the invariant. -/
theorem stepKeepsLinkGrammar : Obligations.StepKeepsLinkGrammar := fun _ _ hs hg h =>
  (step_keeps (P := fun u => Inv u ∧ LinkGrammar u) (fun _ _ hm hu => ⟨hm.inv hu.1, hm.linkGrammar hu.1 hu.2⟩) h
    ⟨hs, hg⟩).2

end Sys2Proof.Machine
end

section
/-! SUPPORT. The control unit: the output size (R182), every branch of CONFIGURE (R185), RESET (R188), and what they and the receiver
leave alone. -/

namespace Sys2Proof.Machine

/-! ## RESET (R188, R190) -/

/-- Settles O3: RESET is one record update. -/
theorem resetRule : Obligations.ResetRule := fun _ => rfl

theorem resetBlock_resetBlock (s : State) : resetBlock (resetBlock s) = resetBlock s := rfl

/-- Settles O4: a second RESET writes the values that the first one left. -/
theorem resetIsIdempotent : Obligations.ResetIsIdempotent := by
  intro s t h
  cases h
  exact ⟨congrArg Host.Outcome.next (resetBlock_resetBlock s), rfl, rfl⟩

/-! ## The output size (R182, R183) -/

/-- Settles O18: the integer quotient is the `q` of the floor. -/
theorem outputSizeRule : Obligations.OutputSizeRule := fun p f hden =>
  ⟨⟨f * p.spNum / p.spDen, Nat.div_mul_le_self _ _, Nat.lt_mul_of_div_lt (Nat.lt_succ_self _) hden, rfl⟩,
    outputSize_mod_channels p f, le_outputSize p f⟩

/-! ## CONFIGURE, branch by branch (R185) -/

theorem configureWith_fatal {s : State} (hf : s.fatal = true) (r : ParseResult) : configureWith r s = s := if_pos hf

section
variable {s : State} (hf : s.fatal = false)
include hf

/-- While FATAL = 0, CONFIGURE makes its tests on the cleared pipeline. -/
theorem configureWith_not_fatal (r : ParseResult) :
    configureWith r s = applyConfig r { pipelineClear s with perr := false } :=
  if_neg (Bool.eq_false_iff.1 hf)

/-- E1 and E2 set PERR on the cleared pipeline. -/
theorem configureWith_perr {r : ParseResult} (hr : r = .malformed ∨ ∃ e, r = .ok e 0) :
    configureWith r s = { pipelineClear s with perr := true } := by
  rw [configureWith_not_fatal hf]
  obtain rfl | ⟨e, rfl⟩ := hr <;>
    simp [applyConfig, recordError, ErrorCode.setsPerr, ErrorCode.setsFatal, ErrorCode.setsOvr]

/-- E3 sets FATAL on the cleared pipeline. -/
theorem configureWith_oversize {f : BitVec 10} (h0 : f ≠ 0) (hB : s.params.bufferSize < outputSize s.params f.toNat)
    (e : BitVec 64) : configureWith (.ok e f) s = { pipelineClear s with perr := false, fatal := true } := by
  rw [configureWith_not_fatal hf, applyConfig, if_neg h0, if_pos (by exact hB)]
  simp [recordError, ErrorCode.setsPerr, ErrorCode.setsFatal, ErrorCode.setsOvr]

theorem configureWith_accepted {f : BitVec 10} (h0 : f ≠ 0) (hB : outputSize s.params f.toNat ≤ s.params.bufferSize)
    (e : BitVec 64) : configureWith (.ok e f) s = startAcquiring e f { pipelineClear s with perr := false } := by
  rw [configureWith_not_fatal hf, applyConfig, if_neg h0, if_neg (by exact Nat.not_lt.2 hB)]

/-- CONFIGURE leaves `Acquiring` only by its success branch (R191). -/
theorem configureWith_acquiring {r : ParseResult} (ha : (configureWith r s).phase = .acquiring) :
    ∃ e f, r = .ok e f ∧ f ≠ 0 ∧ outputSize s.params f.toNat ≤ s.params.bufferSize ∧
      configureWith r s = startAcquiring e f { pipelineClear s with perr := false } := by
  rcases configureWith_cases r s with ⟨hft, _⟩ | ⟨_, _, h⟩ | ⟨_, _, h⟩ | ⟨_, hstart⟩
  · cases hf.symm.trans hft
  · rw [h] at ha
    cases ha
  · rw [h] at ha
    cases ha
  · exact hstart

end

/-- Settles O19: each clause is CONFIGURE's branch of that name. -/
theorem configureRule : Obligations.ConfigureRule := by
  intro s r c
  refine ⟨fun hf => ?fatal, fun hf hr => ?malformed, fun e hf hr => ?zero, fun e f hf hr h0 hB => ?oversize,
    fun e f hf hr h0 hB => ?accepted⟩
  all_goals refine congrArg Host.Outcome.next (?_ : configureWith r s = _)
  case fatal => exact configureWith_fatal hf r
  case malformed => exact configureWith_perr hf (.inl hr)
  case zero => exact configureWith_perr hf (.inr ⟨e, hr⟩)
  case oversize => exact hr ▸ configureWith_oversize hf h0 hB e
  case accepted => exact hr ▸ configureWith_accepted hf h0 hB e

/-! ## What the receiver's operations leave alone (R185, R187, R211) -/

/-- `t` is `s` but for what the control unit and the receiver write. -/
def ControlMoves (s t : State) : Prop :=
  t = { s with active := t.active, cursor := t.cursor, ready := t.ready, osize := t.osize, phase := t.phase
               epoch := t.epoch, freq := t.freq, fatal := t.fatal, perr := t.perr, ovr := t.ovr, tmrCnt := t.tmrCnt
               ts := t.ts, tprev := t.tprev, encBusy := t.encBusy, encPos := t.encPos, rxMode := t.rxMode
               rxCnt := t.rxCnt, rxBuf := t.rxBuf, linkOut := t.linkOut }

/-- `t` keeps what only a successful CONFIGURE writes: the link's history, the configuration and the times. -/
def KeepsConfiguration (s t : State) : Prop :=
  t.linkOut = s.linkOut ∧ t.epoch = s.epoch ∧ t.freq = s.freq ∧ t.ts = s.ts ∧ t.tprev = s.tprev

theorem KeepsConfiguration.refl (s : State) : KeepsConfiguration s s := ⟨rfl, rfl, rfl, rfl, rfl⟩

theorem configureWith_moves (r : ParseResult) (s : State) : ControlMoves s (configureWith r s) := by
  rcases configureWith_cases r s with ⟨_, h⟩ | ⟨_, _, h⟩ | ⟨_, _, h⟩ | ⟨_, _, _, _, _, _, h⟩ <;> rw [h] <;> rfl

theorem configureWith_rxBuf (r : ParseResult) (s : State) : (configureWith r s).rxBuf = s.rxBuf := by
  rcases configureWith_cases r s with ⟨_, h⟩ | ⟨_, _, h⟩ | ⟨_, _, h⟩ | ⟨_, _, _, _, _, _, h⟩ <;> rw [h] <;> rfl

/-- A CONFIGURE that ends in `Idle` has not succeeded (decision D39 of R185). -/
theorem configureWith_keepsConfiguration_of_idle {r : ParseResult} {s : State} (hi : (configureWith r s).phase = .idle) :
    KeepsConfiguration s (configureWith r s) := by
  rcases configureWith_cases r s with ⟨_, h⟩ | ⟨_, _, h⟩ | ⟨_, _, h⟩ | ⟨_, _, _, _, _, _, h⟩ <;> rw [h] at hi ⊢
  case inr.inr.inr => cases hi
  all_goals exact KeepsConfiguration.refl s

theorem receiveByte_controlMoves (b : Byte) (s : State) : ControlMoves s (receiveByte b s) := by
  rcases receiveByte_moves b s with ⟨_, h⟩ | ⟨_, h⟩ | ⟨_, _, _, _, h⟩ <;> rw [h]
  case inl => rfl
  case inr.inl => exact configureWith_moves _ (receiverToCmd (storePayload b s))
  case inr.inr => rfl

theorem receiveByte_keepsConfiguration_of_idle {b : Byte} {s : State} (hi : (receiveByte b s).phase = .idle) :
    KeepsConfiguration s (receiveByte b s) := by
  rcases receiveByte_moves b s with ⟨_, h⟩ | ⟨_, h⟩ | ⟨_, _, _, _, h⟩ <;> rw [h] at hi ⊢
  case inl => exact KeepsConfiguration.refl s
  case inr.inl => exact configureWith_keepsConfiguration_of_idle (s := receiverToCmd (storePayload b s)) hi
  case inr.inr => exact KeepsConfiguration.refl s

/-- The command bytes `'R'` and `'T'` neither store a byte nor configure (R213, R214). -/
theorem receiveByte_command_keeps {b : Byte} (hb : b = codeR ∨ b = codeT) (s : State) :
    (receiveByte b s).rxBuf = s.rxBuf ∧ KeepsConfiguration s (receiveByte b s) := by
  rcases receiveByte_cases b s with
    ⟨_, h⟩ | ⟨_, _, h⟩ | ⟨_, _, h⟩ | ⟨hR, hT, _⟩ | ⟨hR, hT, _⟩
  case inr.inr.inr.inl => exact absurd hb (not_or.2 ⟨hR, hT⟩)
  case inr.inr.inr.inr => exact absurd hb (not_or.2 ⟨hR, hT⟩)
  all_goals rw [h]; exact ⟨rfl, KeepsConfiguration.refl s⟩

/-- Each control operation is RX_BYTE of some byte or CONFIGURE; RESET is that of `'R'`. -/
theorem exec_control_cases {i : Instr} {b : Byte} {r : ParseResult} {s t : State}
    (hi : i = .resetCmd ∨ i = .configCmd ∨ i = .payloadByte b ∨ i = .ignoredByte b ∨ i = .rxByte b ∨ i = .configure r ∨
      i = .reset) (h : exec i s = .next t) : (∃ b, t = receiveByte b s) ∨ t = configureWith r s := by
  rcases hi with rfl | rfl | rfl | rfl | rfl | rfl | rfl <;> cases h
  case inr.inr.inr.inr.inr.inl => exact .inr rfl
  case inr.inr.inr.inr.inr.inr => exact .inl ⟨codeR, rfl⟩
  all_goals exact .inl ⟨_, rfl⟩

/-- Settles O39: the operations are RX_BYTE or CONFIGURE, whose branches write the listed elements alone. -/
theorem controlFrame : Obligations.ControlFrame := by
  intro s t i b r hi h
  obtain ⟨hmoves, hprefix, hidle⟩ : ControlMoves s t ∧ s.linkOut <+: t.linkOut ∧
      (t.phase = .idle → KeepsConfiguration s t) := by
    obtain ⟨b, rfl⟩ | rfl := exec_control_cases hi h
    · exact ⟨receiveByte_controlMoves b s, receiveByte_linkOut_prefix b s,
        receiveByte_keepsConfiguration_of_idle⟩
    · exact ⟨configureWith_moves r s, configureWith_linkOut_prefix r s,
        configureWith_keepsConfiguration_of_idle⟩
  refine ⟨hmoves, hprefix, fun hbuf => ?rxBuf, fun hcfg => ?configuration, hidle⟩
  case rxBuf =>
    rcases hbuf with rfl | rfl | rfl | rfl <;> cases h
    · exact (receiveByte_command_keeps (.inl rfl) s).1
    · exact (receiveByte_command_keeps (.inr rfl) s).1
    · exact configureWith_rxBuf r s
    · rfl
  case configuration =>
    rcases hcfg with rfl | rfl | rfl <;> cases h
    · exact (receiveByte_command_keeps (.inl rfl) s).2
    · exact (receiveByte_command_keeps (.inr rfl) s).2
    · exact KeepsConfiguration.refl s

end Sys2Proof.Machine
end

section
/-! SUPPORT. The fatal state, which only `'R'` leaves (R189), and the one way into `Acquiring`: the byte that completes a payload, with
its ack line (R191, R193, R222). -/

namespace Sys2Proof.Machine

/-! ## The fatal state (R189) -/

/-- FATAL is set, and no agent but the host has a step: the block is `Idle` with an empty pipeline. -/
structure Inert (s : State) : Prop where
  fatal : s.fatal = true
  phase : s.phase = .idle
  ready : s.ready = false
  encBusy : s.encBusy = false

/-- The fatal state is `Idle`, with an empty pipeline (R61 (iii), (v)). -/
theorem Inv.inert {s : State} (hs : Inv s) (hf : s.fatal = true) : Inert s := by
  have hi := hs.fatal hf
  obtain ⟨_, hready, hbusy, _⟩ := hs.idle hi
  exact ⟨hf, hi, hready, hbusy⟩

theorem execTick_idle {s : State} (hi : s.phase = .idle) (g : List Word) (t : Time) :
    execTick g t s = .refused .tickNotEnabled :=
  if_neg fun h => by cases hi.symm.trans (tickEnabled_iff.1 h)

theorem execTake_not_ready {s : State} (hr : s.ready = false) : execTake s = .refused .takeNotEnabled :=
  if_neg fun h => by cases hr.symm.trans (takeEnabled_iff.1 h).1

theorem execEmit_not_busy {s : State} (hb : s.encBusy = false) : execEmit s = .refused .emitNotEnabled :=
  if_neg fun h => by cases hb.symm.trans (emitEnabled_iff.1 h).1

theorem receiveByte_fatal {b : Byte} {s : State} (hR : b ≠ codeR) (hf : s.fatal = true) : receiveByte b s = s := by
  rw [receiveByte, if_neg hR, if_pos hf]

theorem cycleReceive_fatal {c : CycleInputs} {s : State} (hR : c.rx ≠ some codeR) (hf : s.fatal = true) :
    cycleReceive c s = s := by
  unfold cycleReceive
  split
  · rename_i b hb
    exact receiveByte_fatal (fun h => hR (hb.trans (congrArg some h))) hf
  · rfl

/-- A clock cycle without `'R'` only drives the inputs. -/
theorem Inert.clockCycle_eq {c : CycleInputs} {s : State} (hs : Inert s) (hR : c.rx ≠ some codeR) :
    clockCycle c s = .next (driveInputs c s) := by
  have hidle : tickEnabled (driveInputs c s) = false := by simp [tickEnabled, driveInputs, hs.phase]
  have htimer : cycleTimer (restartsTimer c s) c (cycleReceive c (driveInputs c s)) = .next (driveInputs c s) := by
    rw [cycleReceive_fatal (s := driveInputs c s) hR hs.fatal, cycleTimer, hidle]
    rfl
  refine clockCycle_of_drainRests htimer fun u hu => ?_
  cases hu
  constructor
  · simp [takeEnabled, driveInputs, hs.ready]
  · simp [emitEnabled, driveInputs, hs.encBusy]

/-- An event without `'R'` is ignored, refused, or drives the inputs. -/
theorem Inert.runEvent_envMoves {e : Event} {s t : State} (hs : Inert s) (hR : eventByte e ≠ some codeR)
    (h : runEvent e s = .next t) : EnvMoves s t := by
  cases e with
  | rx b =>
    cases h
    rw [receiveByte_fatal (fun hb => hR (congrArg some hb)) hs.fatal]
    rfl
  | tick g u => cases (execTick_idle hs.phase g u).symm.trans h
  | take => cases (execTake_not_ready hs.ready).symm.trans h
  | emit => cases (execEmit_not_busy (s := { s with txReady := true }) hs.encBusy).symm.trans h
  | now u =>
    cases h
    rfl
  | cycle c =>
    cases (hs.clockCycle_eq hR).symm.trans h
    rfl

/-- Moving the schedule or the draw counter on first is no more than a move of the environment. -/
theorem EnvMoves.of_reschedule {s t : State} {es : List Event} {n : Nat}
    (h : EnvMoves { s with sched := es, draws := n } t) : EnvMoves s t := h

theorem Inert.reschedule {s : State} (hs : Inert s) (es : List Event) (n : Nat) :
    Inert { s with sched := es, draws := n } := { hs with }

/-- Settles O22: the fatal state is `Idle` and empty, so no agent but the host has a step, and the host's bytes are ignored. -/
theorem fatalStateIsInert : Obligations.FatalStateIsInert := by
  intro s hinv hf
  have hs := hinv.inert hf
  refine ⟨fun t h hR => ?_, execTick_idle hs.phase, execTake_not_ready hs.ready, execEmit_not_busy hs.encBusy,
    fun r => congrArg _ (configureWith_fatal hf r)⟩
  rcases step_cases h with ⟨_, rfl⟩ | ⟨es, n, h⟩
  · rfl
  · exact ((hs.reschedule es n).runEvent_envMoves hR h).of_reschedule

/-! ## The byte that completes a payload (R211) -/

theorem EnvMoves.phase_eq {s u : State} (h : EnvMoves s u) : u.phase = s.phase := by rw [h]

theorem EnvMoves.params_eq {s u : State} (h : EnvMoves s u) : u.params = s.params := by rw [h]

theorem EnvMoves.rxBuf_eq {s u : State} (h : EnvMoves s u) : u.rxBuf = s.rxBuf := by rw [h]

theorem EnvMoves.linkOut_eq {s u : State} (h : EnvMoves s u) : u.linkOut = s.linkOut := by rw [h]

/-- If the byte that completes a payload leaves `Acquiring`, it has performed CONFIGURE's success branch. -/
theorem receiveByte_starts_acquiring {b : Byte} {s : State} (hc : completesPayload b s = true)
    (ha : (receiveByte b s).phase = .acquiring) :
    ∃ e f, parse (s.rxBuf.set 13 b) = .ok e f ∧ f ≠ 0 ∧ outputSize s.params f.toNat ≤ s.params.bufferSize ∧
      receiveByte b s =
        startAcquiring e f { pipelineClear (receiverToCmd (storePayload b s)) with perr := false } := by
  obtain ⟨hR, hf, hT, hm, h13⟩ := (completesPayload_iff b s).1 hc
  have hbuf : (storePayload b s).rxBuf = s.rxBuf.set 13 b := by simp [storePayload, h13]
  rw [receiveByte_payload hR hT hf hm, collectPayload_last h13, hbuf] at ha ⊢
  exact configureWith_acquiring (s := receiverToCmd (storePayload b s)) hf ha

/-- A step that brings a host byte always runs its event: the host has a step in every state (R210). -/
theorem step_of_incoming {b : Byte} {s : State} (hb : incoming s = some b) :
    ∃ es n, step s = runEvent (nextEvent s) { s with sched := es, draws := n } := by
  cases hs : s.sched with
  | cons e rest => exact ⟨rest, s.draws, by rw [nextEvent, hs]; exact step_sched hs⟩
  | nil =>
    have hnext : nextEvent s = drawEvent s.params s.draws := by rw [nextEvent, hs]
    have hen : eventEnabled (drawEvent s.params s.draws) s = true := by
      rw [incoming, hnext] at hb
      cases he : drawEvent s.params s.draws with
      | rx => rfl
      | now => rfl
      | cycle => rfl
      | _ => rw [he] at hb; cases hb
    exact ⟨s.sched, s.draws + 1, by rw [step_free hs, if_pos hen, hnext]⟩

/-- The event whose byte completes a payload is RX_BYTE of it alone, a clock cycle included. -/
theorem runEvent_of_completes {e : Event} {b : Byte} {s : State} (hb : eventByte e = some b)
    (hc : completesPayload b s = true) : ∃ u, EnvMoves s u ∧ runEvent e s = .next (receiveByte b u) := by
  cases e with
  | rx b' =>
    cases hb
    exact ⟨s, rfl, rfl⟩
  | cycle c => exact ⟨driveInputs c s, rfl, clockCycle_of_completes hb hc⟩
  | _ => cases hb

theorem step_of_completes {b : Byte} {s : State} (hb : incoming s = some b) (hc : completesPayload b s = true) :
    ∃ u, EnvMoves s u ∧ step s = .next (receiveByte b u) := by
  obtain ⟨es, n, hstep⟩ := step_of_incoming hb
  obtain ⟨u, hu, hrun⟩ := runEvent_of_completes (s := { s with sched := es, draws := n }) hb hc
  exact ⟨u, hu.of_reschedule, hstep.trans hrun⟩

/-- Settles O51: the step is RX_BYTE of that byte alone, which performs CONFIGURE's success branch. -/
theorem ackIsFirstAfterConfiguration : Obligations.AckIsFirstAfterConfiguration := by
  intro s t b h hb hc ha
  obtain ⟨u, hu, hstep⟩ := step_of_completes hb hc
  cases h.symm.trans hstep
  obtain ⟨e, f, _, _, _, hstart⟩ := receiveByte_starts_acquiring ((hu.completesPayload_eq b).trans hc) ha
  rw [hstart, ← hu.linkOut_eq, ← hu.params_eq]
  rfl

/-! ## The way into `Acquiring` (R191) -/

/-- Without a host byte the phase stands still. -/
theorem Quiet.phase_eq {s t : State} (h : Quiet s t) : t.phase = s.phase := by
  cases h with
  | env h => exact h.phase_eq
  | count => rfl
  | tick g u h => rw [(samplerFrame s t g u).2 h]
  | take h => rw [(drainFrame s t).1 h]
  | emit h => rw [(drainFrame s t).2.1 h]

theorem Quiets.phase_eq {s t : State} (h : Quiets s t) : t.phase = s.phase := by
  induction h with
  | refl => rfl
  | tail _ hq ih => exact hq.phase_eq.trans ih

/-- A byte that takes the block from `Idle` to `Acquiring` completes a payload. -/
theorem completesPayload_of_starts {b : Byte} {s : State} (hi : s.phase = .idle)
    (ha : (receiveByte b s).phase = .acquiring) : completesPayload b s = true := by
  rcases receiveByte_moves b s with ⟨_, h⟩ | ⟨hc, _⟩ | ⟨_, _, _, _, h⟩
  · rw [h] at ha
    cases ha
  · exact hc
  · rw [h] at ha
    cases hi.symm.trans ha

/-- Settles O21: only the host's byte changes the phase, and it does so by CONFIGURE's success branch, which is then the whole
step. -/
theorem acquiringOnlyByConfiguration : Obligations.AcquiringOnlyByConfiguration := by
  intro s t h hi ha
  rcases step_parts h with hq | ⟨b, u, hb, hu, hq, hwhole⟩
  · cases (hq.phase_eq.trans hi).symm.trans ha
  · have hrecv : (receiveByte b u).phase = .acquiring := hq.phase_eq.symm.trans ha
    have hc : completesPayload b u = true := completesPayload_of_starts (hu.phase_eq.trans hi) hrecv
    obtain ⟨e, f, hok, h0, hB, hstart⟩ := receiveByte_starts_acquiring hc hrecv
    have hos : t.osize = outputSize s.params f.toNat := by
      rw [hwhole hc, hstart, ← hu.params_eq]
      rfl
    rw [hu.rxBuf_eq] at hok
    rw [hu.params_eq] at hB
    exact ⟨b, e, f, hb, (hu.completesPayload_eq b).symm.trans hc, hok, h0, hos, hos ▸ le_outputSize _ _, hos ▸ hB⟩

end Sys2Proof.Machine
end

section
/-! SUPPORT. The host link: each branch of the receiver as the byte rows see it (R211, R213 to R216), the receiver while no byte
arrives (R217), and the stream of every run (R222). -/

namespace Sys2Proof.Machine

/-! ## The branches of RX_BYTE (R211) -/

/-- `'R'` is RESET in every state (R213). -/
theorem receiveByte_codeR (s : State) : receiveByte codeR s = resetBlock s := if_pos rfl

/-- A byte other than `'R'` is ignored while FATAL = 1 (R216), and in `Cmd` if it is not `'T'` either (R215). -/
theorem receiveByte_ignored {b : Byte} {s : State} (hR : b ≠ codeR) (h : s.fatal = true ∨ b ≠ codeT ∧ s.rxMode = .cmd) :
    receiveByte b s = s := by
  cases hf : s.fatal with
  | true => exact receiveByte_fatal hR hf
  | false =>
    obtain ⟨hT, hm⟩ := h.resolve_left (Bool.eq_false_iff.1 hf)
    simp [receiveByte, hR, hf, hT, hm]

section
variable {b : Byte} {s : State} (hR : b ≠ codeR) (hT : b ≠ codeT) (hf : s.fatal = false) (hm : s.rxMode = .payload)
include hR hT hf hm

/-- A payload byte before the 14th is stored and counted. -/
theorem receiveByte_stores (hc : s.rxCnt ≠ 13) :
    receiveByte b s = { s with rxBuf := s.rxBuf.set s.rxCnt b, rxCnt := s.rxCnt + 1 } :=
  (receiveByte_payload hR hT hf hm).trans (collectPayload_more hc b)

/-- The 14th payload byte performs CONFIGURE of the parse of the buffer, itself included. -/
theorem receiveByte_configures (h13 : s.rxCnt = 13) :
    receiveByte b s = configureWith (parse (s.rxBuf.set 13 b))
      { s with rxBuf := s.rxBuf.set 13 b, rxMode := .cmd, rxCnt := 0 } := by
  have hstored : storePayload b s = { s with rxBuf := s.rxBuf.set 13 b } := by simp [storePayload, h13]
  rw [receiveByte_payload hR hT hf hm, collectPayload_last h13, hstored]
  rfl

end

/-- Settles O13: the clauses are the branches of R211, one lemma a branch. -/
theorem receiveByteRule : Obligations.ReceiveByteRule := by
  intro s b
  refine ⟨fun hR => ?reset, fun hR hf => ?fatal, fun hT hf => ?start, fun hR hT _ hm => ?command,
    fun hR hT hf hm hc => ?store, fun hR hT hf hm h13 => ?configure⟩
  all_goals refine congrArg Host.Outcome.next (?_ : receiveByte b s = _)
  case reset => exact hR ▸ receiveByte_codeR s
  case fatal => exact receiveByte_ignored hR (.inl hf)
  case start => exact hT ▸ receiveByte_codeT hf
  case command => exact receiveByte_ignored hR (.inr ⟨hT, hm⟩)
  case store => exact receiveByte_stores hR hT hf hm hc
  case configure => exact receiveByte_configures hR hT hf hm h13

/-- Settles O15: each row is RX_BYTE of its byte, and where the row is admitted its branch of R211 is known. -/
theorem hostByteRowsComplete : Obligations.HostByteRowsComplete := by
  refine ⟨fun s => ?resetCmd, fun s => ?configCmd, fun s b hadm => ?ignoredByte, fun s b hadm hc => ?payloadByte,
    fun s b hadm h13 => ?lastPayloadByte, fun s b => ⟨receiveByte b s, rfl, rfl, rfl⟩⟩
  all_goals apply congrArg Host.Outcome.next
  case resetCmd => exact receiveByte_codeR s
  case configCmd =>
    split
    case isTrue hf => exact receiveByte_fatal codeT_ne_codeR hf
    case isFalse hf => exact receiveByte_codeT (Bool.eq_false_iff.2 hf)
  case ignoredByte =>
    obtain ⟨hR, h⟩ := admitted_ignoredByte.1 hadm
    exact receiveByte_ignored hR h
  case payloadByte =>
    obtain ⟨hR, hT, hm, hf⟩ := admitted_payloadByte.1 hadm
    exact receiveByte_stores hR hT hf hm hc
  case lastPayloadByte =>
    obtain ⟨hR, hT, hm, hf⟩ := admitted_payloadByte.1 hadm
    exact receiveByte_configures hR hT hf hm h13

/-! ## The receiver while no byte arrives (R217) -/

/-- `t` has the receiver's state of `s`. -/
def KeepsReceiver (s t : State) : Prop := t.rxMode = s.rxMode ∧ t.rxCnt = s.rxCnt ∧ t.rxBuf = s.rxBuf

theorem KeepsReceiver.refl (s : State) : KeepsReceiver s s := ⟨rfl, rfl, rfl⟩

theorem KeepsReceiver.trans {s t u : State} (h : KeepsReceiver s t) (h' : KeepsReceiver t u) : KeepsReceiver s u := by
  obtain ⟨hmode, hcnt, hbuf⟩ := h
  obtain ⟨hmode', hcnt', hbuf'⟩ := h'
  exact ⟨hmode'.trans hmode, hcnt'.trans hcnt, hbuf'.trans hbuf⟩

/-- The frame of each agent other than the host holds the receiver fixed. -/
theorem Quiet.keepsReceiver {s t : State} (h : Quiet s t) : KeepsReceiver s t := by
  cases h with
  | env h => rw [h]; exact KeepsReceiver.refl s
  | count => exact KeepsReceiver.refl s
  | tick g u h => rw [(samplerFrame s t g u).2 h]; exact KeepsReceiver.refl s
  | take h => rw [(drainFrame s t).1 h]; exact KeepsReceiver.refl s
  | emit h => rw [(drainFrame s t).2.1 h]; exact KeepsReceiver.refl s

theorem Quiets.keepsReceiver {s t : State} (h : Quiets s t) : KeepsReceiver s t := by
  induction h with
  | refl => exact KeepsReceiver.refl s
  | tail _ hq ih => exact ih.trans hq.keepsReceiver

/-- Settles O16: a step that brings no host byte is a chain of the other agents' micro steps. -/
theorem payloadStaysPending : Obligations.PayloadStaysPending := by
  intro s t h hnone
  rcases step_parts h with hq | ⟨b, _, hb, _⟩
  · exact hq.keepsReceiver
  · cases hnone.symm.trans hb

/-! ## The stream of every run (R222) -/

/-- Settles O52: nothing has been sent, so the stream is the empty sequence of segments. -/
theorem powerOnMeetsLinkGrammar : Obligations.PowerOnMeetsLinkGrammar := fun _ _ =>
  (linkGrammar_iff_of_not_busy rfl).2 ⟨none, ⟨[], rfl, rfl⟩, fun ha => by cases ha⟩

/-- Settles O54: the grammar and the invariant hold after power-on (O52, O2), and every step keeps them together (O53, O45). -/
theorem reachableStreamMeetsR222 : Obligations.ReachableStreamMeetsR222 := fun _ h =>
  (reachable_induction (P := fun s => Inv s ∧ LinkGrammar s)
    (fun p es hp => ⟨powerOnMeetsInvariant p es hp, powerOnMeetsLinkGrammar p es⟩)
    (fun s t ⟨hinv, hg⟩ hst => ⟨stepKeepsInvariant s t hinv hst, stepKeepsLinkGrammar s t hinv hg hst⟩) h).2

end Sys2Proof.Machine
end

section
/-! SUPPORT. Power-on, element by element (R270), and RESET against it (R272). -/

namespace Sys2Proof.Machine

/-- Nothing on the link, WAIT = 1 and the three error outputs 0 (R270). -/
@[simp] theorem observe_powerOn (p : Params) : observe (State.powerOn p) = ⟨[], true, false, false, false⟩ := rfl

/-- Settles O1: power-on is one record, whose fields are R32's power-on column, and its outputs are `observe_powerOn`. -/
theorem powerOnValues : Obligations.PowerOnValues := by
  rintro p _ rfl
  refine ⟨rfl, rfl, rfl, rfl, rfl, rfl, rfl, rfl, rfl, rfl, rfl, rfl, rfl, rfl, rfl, rfl, rfl, rfl, rfl, rfl, rfl, ?outputs⟩
  exact observe_powerOn p

/-- Settles O5: the next state is the one of RESET's rule (O3); it writes the power-on value to every element that the statement
does not take from `s`. -/
theorem resetAgainstPowerOn : Obligations.ResetAgainstPowerOn := by
  intro s t h
  exact Host.Outcome.next.inj (h.symm.trans (resetRule s))

end Sys2Proof.Machine
end
